-- ==== Sys2Proof/Word.lean ====
section
/-! DEFINITION. The byte, the unit of every wire of the part (R172). -/

namespace Sys2Proof

/-- One byte on a wire of the part; bit 0 is the least significant bit (R172). -/
abbrev Byte := BitVec 8

end Sys2Proof
end

