-- ==== Sys2Proof/Syntax.lean ====
section
/-! DEFINITION. The commands of the part, one constructor for each row of the table of operations and events, with
what each carries. Bytes of a wire that belong together are one bit vector, the first byte in its low bits (R172). -/

namespace Sys2Proof

/-- The half of the instrument a tab group belongs to (0.4). -/
inductive Side where
  | treble
  | bass
  deriving DecidableEq, Repr

/-- One step of the part: what arrives at its ports and lines, what its own timers bring, and the departure of a
frame. A request stands for the transaction that carries it, whole, at its rise of chip select (R164). -/
inductive Instr where
  /-- R2: a scan completes; a bit is 1 where the contact reads pressed (a tab: on). -/
  | scanCompletion (buttons : BitVec 96) (tabs : BitVec 12) (chins : BitVec 4)
  /-- R11: the settle timer of a side's tab group expires. -/
  | settleExpiry (side : Side)
  /-- R99: a voice reaches its tail deadline. -/
  | tailExpiry (voice : Fin 128)
  /-- R19 to R21: a character comes to its stop bit; `line` holds the samples of the conductor in use from sample 0
  on, 1 for high. -/
  | bassCharacter (line : BitVec 176)
  /-- R21: more than 88 µs without a start in COLLECTING. -/
  | gapExpiry
  /-- R22, R26: a complete frame of 20 bytes is checked and handled. -/
  | acceptedFrame (frame : BitVec 160)
  /-- R29, R30: the loss timer reaches the loss time. -/
  | lossTimerExpiry
  /-- R125: a NORMAL frame is built. -/
  | normalFrame
  /-- R121: a WAKE frame is built. -/
  | wakeFrame
  /-- R121: a CLOSE frame is built. -/
  | closeFrame
  /-- R129: an upstream frame of seven bytes is received whole. -/
  | upstreamAnswer (frame : BitVec 56)
  /-- R135: the wake timer expires. -/
  | wakeTimerExpiry
  /-- R133: the hold-off timer expires. -/
  | holdOffExpiry
  /-- R137: the close timer expires. -/
  | closeTimerExpiry
  /-- R148: a frame tick of the apply pass. -/
  | applyPassTick
  /-- R158: the hush timer reaches the hush time. -/
  | hushExpiry
  /-- R161: power-on, or the reset pin falls. -/
  | coldReset
  /-- R162: the controller's WARM_RESET. -/
  | warmReset
  /-- R164: a transaction begun while the busy window is open. -/
  | earlyTransaction
  /-- R164: the 20 µs busy window ends. -/
  | busyWindowExpiry
  /-- R165: a taken request whose kind byte names no request. -/
  | unknownRequest (kind : Byte)
  /-- R164: the request NOP. -/
  | nop
  /-- R166: the request STATUS. -/
  | status
  /-- R83: the request FIND. -/
  | find (side pitch : Byte)
  /-- R83: the request SCAN. -/
  | scan (side pitch : Byte)
  /-- R107: the request VOICE. -/
  | voice (id : Byte)
  /-- R84: the request ADJUST. -/
  | adjust (side pitch slot level mute : Byte)
  /-- R85: the request RETIRE. -/
  | retire (side pitch : Byte)
  /-- R86: the request SILENCE. -/
  | silence (side : Byte)
  /-- R145: the request PUT_REG, each half its 49 bytes. -/
  | putReg (entry : Byte) (treble bass : BitVec 392)
  /-- R145: the request GET_REG. -/
  | getReg (entry : Byte)
  /-- R109: the request PUT_CURVE with its nine points. -/
  | putCurve (curve : Byte) (points : BitVec 72)
  /-- R109: the request GET_CURVE. -/
  | getCurve (curve : Byte)
  /-- R54: the request PUT_MAP with its 96 map entries and three bases. -/
  | putMap (entries : BitVec 768) (trebleBase bassBase chordBase : Byte)
  /-- R167: the request PUT_SETUP with its 44 bytes. -/
  | putSetup (settings : BitVec 352)
  /-- R167: the request GET_SETUP. -/
  | getSetup
  /-- R147: the request APPLY. -/
  | apply (entry halves : Byte)
  /-- R45: the request CALIBRATE. -/
  | calibrate
  /-- R132: the request BUS_OPEN. -/
  | busOpen
  /-- R137: the request BUS_CLOSE. -/
  | busClose
  /-- R156: the request START. -/
  | start
  /-- R160: the request WAKE. -/
  | wake
  /-- R169: the request NOTICES. -/
  | notices
  /-- R169: the request CLEAR_NOTICES with its 3-byte mask. -/
  | clearNotices (mask : BitVec 24)
  /-- R170: the request ENABLE with its 3-byte mask. -/
  | enable (mask : BitVec 24)
  /-- R22: the request CLEAR_COUNTS. -/
  | clearCounts
  /-- R165: a taken transaction with fewer argument bytes than its kind needs. -/
  | malformedRequest (kind : Byte) (received : Nat)
  /-- R19: the first low sample of an idle receiver. -/
  | startBitDetection
  /-- R19: the start bit reads high at its sample point. -/
  | noiseStartBit
  /-- R20: a high sample while the receiver awaits idle. -/
  | highSampleInAwaitingIdle
  /-- R161: supply and clock steady and the reset pin high. -/
  | leavingColdReset
  deriving DecidableEq, Repr

end Sys2Proof
end

