-- ==== Sys2Proof/Decode.lean ====
section
/-! DEFINITION. What words and bytes spell. The table of operations and events gives no row any bits, so no word
spells a command. The controller port does read bytes: the request of a transaction (R163 to R165, Table 12-5) is
decoded here, with the bytes of a request beside it. -/

namespace Sys2Proof

/-- The command that a word spells by the table's bits: the table gives none of its rows any bits. -/
def decodeTableWord (_nbits _w : Nat) : Option Instr := none

/-- Byte `i` of a bit vector that holds bytes, the first in its low bits (R172). -/
def byteAt {w : Nat} (x : BitVec w) (i : Nat) : Byte := x.extractLsb' (8 * i) 8

/-- The sum of the first `n` bytes of a wire's bytes, as a number. -/
def byteSum {w : Nat} (x : BitVec w) : Nat → Nat
  | 0 => 0
  | n + 1 => byteSum x n + (byteAt x n).toNat

/-- A frame that can be accepted: it begins with the marker and its 20 bytes sum to 0xFF modulo 256 (R21, R22). -/
def goodFrame (frame : BitVec 160) : Bool := byteAt frame 0 == 0xB5 && byteSum frame 20 % 256 == 0xFF

/-- The first `n` bytes of a number, low byte first (R172). -/
def bytesOfNat : Nat → Nat → List Byte
  | 0, _ => []
  | n + 1, x => BitVec.ofNat 8 x :: bytesOfNat n (x / 256)

/-- The number that bytes spell, low byte first (R172). -/
def natOfBytes : List Byte → Nat
  | [] => 0
  | b :: bs => b.toNat + 256 * natOfBytes bs

/-- The `n` argument bytes from byte `i` on, as one bit vector of `w` bits. -/
def argBits (args : List Byte) (i n w : Nat) : BitVec w := BitVec.ofNat w (natOfBytes ((args.drop i).take n))

/-- The argument length of each request kind, `none` where the byte names no request (Table 12-5). -/
def argumentLength (kind : Byte) : Option Nat :=
  [0, 0, 2, 2, 1, 5, 2, 1, 99, 1, 10, 1, 99, 44, 0, 2, 0, 0, 0, 0, 0, 0, 3, 3, 0, 0][kind.toNat]?

/-- The request of a kind with all its argument bytes (Table 12-5). -/
def requestOf (kind : Byte) (args : List Byte) : Instr :=
  let a := fun i => args.getD i 0
  match kind.toNat with
  | 0x00 => .nop
  | 0x01 => .status
  | 0x02 => .find (a 0) (a 1)
  | 0x03 => .scan (a 0) (a 1)
  | 0x04 => .voice (a 0)
  | 0x05 => .adjust (a 0) (a 1) (a 2) (a 3) (a 4)
  | 0x06 => .retire (a 0) (a 1)
  | 0x07 => .silence (a 0)
  | 0x08 => .putReg (a 0) (argBits args 1 49 392) (argBits args 50 49 392)
  | 0x09 => .getReg (a 0)
  | 0x0A => .putCurve (a 0) (argBits args 1 9 72)
  | 0x0B => .getCurve (a 0)
  | 0x0C => .putMap (argBits args 0 96 768) (a 96) (a 97) (a 98)
  | 0x0D => .putSetup (argBits args 0 44 352)
  | 0x0E => .getSetup
  | 0x0F => .apply (a 0) (a 1)
  | 0x10 => .calibrate
  | 0x11 => .busOpen
  | 0x12 => .busClose
  | 0x13 => .start
  | 0x14 => .wake
  | 0x15 => .notices
  | 0x16 => .clearNotices (argBits args 0 3 24)
  | 0x17 => .enable (argBits args 0 3 24)
  | 0x18 => .clearCounts
  | 0x19 => .warmReset
  | _ => .unknownRequest kind

/-- What a transaction with the busy window closed asks, from the whole bytes it received: nothing without a byte
(R163), and otherwise a request cut short, of an unknown kind, or of its kind (R165); bytes beyond the arguments are
ignored (R163). -/
def decodeTransaction : List Byte → Option Instr
  | [] => none
  | kind :: args =>
    match argumentLength kind with
    | none => some (.unknownRequest kind)
    | some n => if args.length < n then some (.malformedRequest kind args.length) else some (requestOf kind args)

/-- The bytes of a request, its kind byte and its arguments (Table 12-5); `none` for a command that is no request. -/
def encodeRequest : Instr → Option (List Byte)
  | .nop => some [0x00]
  | .status => some [0x01]
  | .find side pitch => some [0x02, side, pitch]
  | .scan side pitch => some [0x03, side, pitch]
  | .voice id => some [0x04, id]
  | .adjust side pitch slot level mute => some [0x05, side, pitch, slot, level, mute]
  | .retire side pitch => some [0x06, side, pitch]
  | .silence side => some [0x07, side]
  | .putReg entry treble bass => some (0x08 :: entry :: (bytesOfNat 49 treble.toNat ++ bytesOfNat 49 bass.toNat))
  | .getReg entry => some [0x09, entry]
  | .putCurve curve points => some (0x0A :: curve :: bytesOfNat 9 points.toNat)
  | .getCurve curve => some [0x0B, curve]
  | .putMap entries tb bb cb => some (0x0C :: (bytesOfNat 96 entries.toNat ++ [tb, bb, cb]))
  | .putSetup settings => some (0x0D :: bytesOfNat 44 settings.toNat)
  | .getSetup => some [0x0E]
  | .apply entry halves => some [0x0F, entry, halves]
  | .calibrate => some [0x10]
  | .busOpen => some [0x11]
  | .busClose => some [0x12]
  | .start => some [0x13]
  | .wake => some [0x14]
  | .notices => some [0x15]
  | .clearNotices mask => some (0x16 :: bytesOfNat 3 mask.toNat)
  | .enable mask => some (0x17 :: bytesOfNat 3 mask.toNat)
  | .clearCounts => some [0x18]
  | .warmReset => some [0x19]
  | _ => none

end Sys2Proof
end

