-- ==== Sys2Proof/Config.lean ====
section
/-! DEFINITION. The one value the spec leaves open. Every other constant of the part is stated by a rule. -/

namespace Sys2Proof

/-- The free byte number `n`: what a response carries where no rule states the byte, that is, the voice id byte
of a slot entry that is not VOICED in a record response (Table 12-7, R83). No body: nothing can be proved of its
value. Notes: notes/assumptions/13.md. -/
opaque Config.freeByte (n : Nat) : Byte

end Sys2Proof
end

