-- ==== Sys2Proof/Machine/State.lean ====
section
/-! DEFINITION. The state of the part, block by block as Table 0-1 lists them, and its values after a cold reset. -/

namespace Sys2Proof.Machine

/-! ## Shared names -/

/-- A side argument that may name both sides (R172: coded 0, 1, 2). -/
inductive Sides where
  | treble | bass | both
  deriving DecidableEq, Repr

/-- A treble button T0..T95 or a bass button B0..B119 (0.4). -/
inductive Button where
  | treble (i : Fin 96)
  | bass (k : Fin 120)
  deriving DecidableEq, Repr

/-- The side of a button: the side of its hold (R55). -/
def Button.side : Button → Side
  | .treble _ => .treble
  | .bass _ => .bass

/-- The key of a record: its side and played pitch (Table 5-1). -/
structure Key where
  side  : Side
  pitch : Nat
  deriving DecidableEq, Repr

/-- One orchestral layer, and a slot's snapshot of it (Table 5-2, R144). -/
structure Layer where
  timbre     : Nat
  transpose  : Int
  curve      : Nat
  volume     : Nat
  tilt       : Int
  priority   : Nat
  engineMask : BitVec 4
  tailLimit  : Nat
  late       : Bool
  accent     : Bool
  deriving DecidableEq, Repr

/-! ## KSU and the tab groups -/

/-- The contacts of one kind: debounced states and disagree counters (R3). -/
structure Contacts (n : Nat) where
  state  : BitVec n
  counts : Vector Nat n
  deriving DecidableEq, Repr

/-- ARMED, or SETTLING with the milliseconds its settle timer has left (R9, R10). -/
inductive GroupState where
  | armed
  | settling (left : Nat)
  deriving DecidableEq, Repr

/-- A tab group of `n` tabs (section 1.4); its input pattern is held by the unit that feeds it. -/
structure TabGroup (n : Nat) where
  mask      : BitVec n
  reference : BitVec n
  state     : GroupState
  deriving DecidableEq, Repr

inductive EdgeSelect where
  | press | release | both
  deriving DecidableEq, Repr

inductive ChinAction where
  | none | notice | sustainHold | sustainToggle | octaveUp | octaveDown | recall | silence
  deriving DecidableEq, Repr

/-- The settings of one chin switch (section 1.5). -/
structure ChinSwitch where
  edge         : EdgeSelect
  action       : ChinAction
  side         : Sides
  registration : Nat
  halves       : Sides
  deriving DecidableEq, Repr

/-- The period of the scan in progress (R2). -/
inductive ScanPeriod where
  | us250 | ms2
  deriving DecidableEq, Repr

/-- The Key Scan Unit (chapter 1). -/
structure Ksu where
  buttons       : Contacts 96
  tabs          : Contacts 12
  chins         : Contacts 4
  latentButtons : BitVec 96
  latentChins   : BitVec 4
  debounceCount : Nat
  settleTime    : Nat
  group         : TabGroup 12
  switches      : Vector ChinSwitch 4
  octave        : Int
  scanPeriod    : ScanPeriod
  deriving DecidableEq, Repr

/-! ## BLR -/

inductive LineSelect where
  | main | spare | auto
  deriving DecidableEq, Repr

inductive Conductor where
  | main | spare
  deriving DecidableEq, Repr

inductive Receiver where
  | awaitingIdle | idle | receiving
  deriving DecidableEq, Repr

/-- SEEKING, or COLLECTING with the bytes kept so far, byte 0 first (R21). -/
inductive Assembler where
  | seeking
  | collecting (bytes : List Byte)
  deriving DecidableEq, Repr

inductive Link where
  | down | up | lost
  deriving DecidableEq, Repr

/-- The Bass Link Receiver (chapter 2), with the bass tab group it owns (R13). -/
structure Blr where
  lineSelect : LineSelect
  conductor  : Conductor
  trim       : Int
  lossTime   : Nat
  receiver   : Receiver
  assembler  : Assembler
  gapRunning : Bool
  /-- A frame whose 20th byte was kept and whose check passed, not yet handled (R22, R25). -/
  complete   : Option (BitVec 160)
  link       : Link
  lossTimer  : Nat
  image      : BitVec 120
  latent     : BitVec 120
  errors     : Nat
  group      : TabGroup 5
  tabImage   : BitVec 5
  deriving DecidableEq, Repr

/-! ## BWU -/

inductive Direction where
  | push | pull | rest
  deriving DecidableEq, Repr

/-- The direction the state left when it last entered REST (section 3.1). -/
inductive Departed where
  | push | pull | none
  deriving DecidableEq, Repr

/-- The calibration collection (R45, R46); no least or greatest value before its first sample. -/
inductive Calibration where
  | idle
  | collecting (count : Nat) (sum : Int) (bounds : Option (Int × Int))
  deriving DecidableEq, Repr

/-- The Bellows Unit (chapter 3). -/
structure Bwu where
  offset        : Int
  deadBand      : Nat
  restCount     : Nat
  window        : Nat
  shift         : Nat
  direction     : Direction
  departed      : Departed
  restRun       : Nat
  restAge       : Nat
  smoothed      : Nat
  reversals     : BitVec 16
  faultRun      : Nat
  faultDeclared : Bool
  calibration   : Calibration
  deriving DecidableEq, Repr

/-! ## HTM and SDT -/

/-- One pressed button's hold (R55); its side is the button's. -/
structure Hold where
  button    : Button
  pitches   : List Nat
  pressTime : BitVec 32
  deriving DecidableEq, Repr

/-- The Hold Table and key maps (chapter 4); `none` in the map is UNUSED. -/
structure Htm where
  map           : Vector (Option Nat) 96
  trebleBase    : Nat
  bassBase      : Nat
  chordBase     : Nat
  holds         : List Hold
  trebleSustain : Bool
  bassSustain   : Bool
  deriving DecidableEq, Repr

/-- Where a slot stands with respect to a voice (R71). -/
inductive SlotStatus where
  | voiced (v : Fin 128)
  | waiting | starved | empty | skipped
  deriving DecidableEq, Repr

/-- A slot of a record (Table 5-2); `override` absent is `none`. -/
structure Slot where
  layer         : Layer
  soundingPitch : Option Nat
  status        : SlotStatus
  override      : Option Nat
  mute          : Bool
  deriving DecidableEq, Repr

/-- A record (Table 5-1); it is HELD while it has a holder and SUSTAINED while it has none (R67). -/
structure Record where
  key        : Key
  holders    : List Button
  stamp      : BitVec 32
  generation : BitVec 16
  slots      : List Slot
  deriving DecidableEq, Repr

/-- The Sounding Table (chapter 5); its records stand in enumeration order (R83). -/
structure Sdt where
  records : List Record
  serial  : BitVec 32
  deriving DecidableEq, Repr

/-! ## VAL and EXU -/

inductive VoiceState where
  | free | sounding | releasing | cutting
  deriving DecidableEq, Repr

inductive Pending where
  | none | start | startRelease | release | cut | accent
  deriving DecidableEq, Repr

/-- A slot named from outside its record: the owner of a voice, an entry of the Waiting List (R89, R103). -/
structure SlotRef where
  key  : Key
  slot : Nat
  deriving DecidableEq, Repr

/-- The limit on a voice's tail: absent, a length in milliseconds not yet started, or a moment (R99). -/
inductive TailDeadline where
  | absent
  | length (ms : Nat)
  | moment (at_ : Nat)
  deriving DecidableEq, Repr

/-- A voice entry (Table 6-1). -/
structure Voice where
  state        : VoiceState
  owner        : Option SlotRef
  side         : Side
  tag          : BitVec 2
  pending      : Pending
  eligibleFrom : Option Nat
  lastSent     : Nat
  target       : Nat
  dirty        : Bool
  startStamp   : BitVec 32
  releaseStamp : BitVec 32
  tail         : TailDeadline
  deriving DecidableEq, Repr

/-- The Voice Allocator (chapter 6). -/
structure Val where
  voices      : Vector Voice 128
  waiting     : List SlotRef
  stamp       : BitVec 32
  joined      : Vector Nat 4
  minSounding : Nat
  deriving DecidableEq, Repr

/-- The Expression Unit (chapter 7). -/
structure Exu where
  curves    : Vector (Vector Nat 9) 16
  threshold : Nat
  deriving DecidableEq, Repr

/-! ## VBC -/

inductive BusState where
  | held | quiet | waking | running | closing
  deriving DecidableEq, Repr

/-- The closing destination (section 8). -/
inductive Destination where
  | quiet | held
  deriving DecidableEq, Repr

/-- One engine's row of the presence table (section 8). -/
structure Engine where
  present    : Bool
  capacity   : Nat
  absenceRun : Nat
  deriving DecidableEq, Repr

/-- The timbre and sounding pitch a START carries, taken at the grant (R123). -/
structure StartContents where
  timbre : Nat
  pitch  : Nat
  deriving DecidableEq, Repr

/-- An entry of the Send List (R123). -/
structure SendEntry where
  voice : Fin 128
  start : Option StartContents
  deriving DecidableEq, Repr

/-- The answer window (R129): none open, open with no answer yet, or answered. -/
inductive AnswerWindow where
  | closed | awaiting | answered
  deriving DecidableEq, Repr

/-- The Voice Bus Controller (chapter 8); a timer holds the milliseconds it has left. -/
structure Vbc where
  bus          : BusState
  destination  : Destination
  engines      : Vector Engine 4
  expected     : BitVec 4
  wakeTime     : Nat
  wakeTimer    : Option Nat
  holdOff      : Option Nat
  closeTimer   : Option Nat
  wakeAttempts : Nat
  sendList     : List SendEntry
  clearPending : BitVec 4
  rotation     : Fin 128
  echo         : BitVec 48
  answer       : AnswerWindow
  /-- The last frame put on the downstream pair; empty where the pair rests (R121, R143). -/
  downstream   : List Byte
  deriving DecidableEq, Repr

/-! ## RSA -/

inductive SwitchMode where
  | carry | next
  deriving DecidableEq, Repr

/-- One half of a registration, of a side with `n` tabs (R144). -/
structure Half (n : Nat) where
  layers  : List Layer
  pattern : Option (BitVec n)
  mode    : SwitchMode
  deriving DecidableEq, Repr

/-- An entry of the Registration Table (R144). -/
structure Registration where
  treble : Half 12
  bass   : Half 5
  deriving DecidableEq, Repr

/-- The registration half in force on a side, with the number of the entry it came from (R146). -/
structure CurrentCopy where
  layers : List Layer
  entry  : Nat
  deriving DecidableEq, Repr

/-- An apply pass in flight (chapter 9); its completion owner is named by the generation its apply gave. -/
structure Pass where
  sides : Sides
  owner : BitVec 16
  deriving DecidableEq, Repr

/-- Registration Store and Apply (chapter 9). -/
structure Rsa where
  table      : Vector Registration 32
  treble     : CurrentCopy
  bass       : CurrentCopy
  generation : BitVec 16
  pass       : Option Pass
  deriving DecidableEq, Repr

/-! ## ACT and CPT -/

inductive Activity where
  | setup | playing | resting
  deriving DecidableEq, Repr

/-- Activity Control (chapter 10). -/
structure Act where
  activity : Activity
  hush     : Nat
  hushTime : Nat
  deriving DecidableEq, Repr

/-- The statuses of Table 11-1. -/
inductive Status where
  | ok | accepted | noRecord | badArg | wrongState | notReady | malformed | unknown
  deriving DecidableEq, Repr

/-- A response: its status and the payload of its kind (R163). -/
structure Response where
  status  : Status
  payload : List Byte
  deriving DecidableEq, Repr

/-- The Controller Port (chapter 11); the attention line is read from the flags and the enable set (R170). -/
structure Cpt where
  buffer     : List Byte
  response   : Response
  busy       : Bool
  notices    : BitVec 21
  enabled    : BitVec 21
  /-- What the last transaction clocked out, before the fill bytes of 0xFF (R163, R164). -/
  clockedOut : List Byte
  deriving DecidableEq, Repr

/-! ## The part -/

/-- What a frame tick that a command began still owes (the model's own): the bus state it began in, whether its paced
frame and its apply pass visits are still to be taken, and whether it is a millisecond tick, whose expiries are. -/
structure OpenTick where
  bus         : BusState
  frame       : Bool
  visits      : Bool
  millisecond : Bool
  deriving DecidableEq, Repr

/-- The whole part. `frameTicks` counts the frame ticks since the last reset (R1); `openTick` is absent where the tick
that stands has been taken whole (the model's own); `freeCount` counts the free values used so far (the model's own);
`pending` holds the commands that wait, the next one first. -/
structure State where
  heldInReset : Bool
  frameTicks  : Nat
  openTick    : Option OpenTick
  ksu         : Ksu
  blr         : Blr
  bwu         : Bwu
  htm         : Htm
  sdt         : Sdt
  val         : Val
  exu         : Exu
  vbc         : Vbc
  rsa         : Rsa
  act         : Act
  cpt         : Cpt
  freeCount   : Nat
  pending     : List Instr
  deriving DecidableEq, Repr

/-- The part never stops: no event of the spec ends in a fault, so no command raises one. -/
inductive Fault where
  deriving DecidableEq, Repr

/-- Why a command has no meaning. -/
inductive Refusal where
  /-- Raised by an arm of `exec` whose command has no meaning yet; no arm is such a one. Safe: it stops. -/
  | notModelled (mnemonic : String)
  deriving DecidableEq, Repr

/-! ## Values after a cold reset -/

/-- Contacts at rest: released or off, every counter 0 (Table 1-2). -/
def Contacts.reset (n : Nat) : Contacts n := { state := 0, counts := Vector.replicate n 0 }

/-- A tab group after a cold reset: every tab selected, reference all off, ARMED (Table 1-2). -/
def TabGroup.reset (n : Nat) : TabGroup n := { mask := BitVec.allOnes n, reference := 0, state := .armed }

/-- A chin switch after a cold reset (Table 1-2). -/
def ChinSwitch.reset : ChinSwitch :=
  { edge := .press, action := .none, side := .both, registration := 0, halves := .both }

/-- A voice entry after either reset (Table 6-6). -/
def Voice.reset : Voice :=
  { state := .free, owner := none, side := .treble, tag := 0, pending := .none, eligibleFrom := none, lastSent := 0,
    target := 0, dirty := false, startStamp := 0, releaseStamp := 0, tail := .absent }

/-- An engine that is ABSENT (Table 8-6). -/
def Engine.absent : Engine := { present := false, capacity := 0, absenceRun := 0 }

/-- The default layer (R144). -/
def Layer.default : Layer :=
  { timbre := 0, transpose := 0, curve := 0, volume := 100, tilt := 0, priority := 4, engineMask := 15,
    tailLimit := 2000, late := true, accent := false }

/-- A registration half after a cold reset (R144). -/
def Half.default (n : Nat) : Half n := { layers := [Layer.default], pattern := none, mode := .carry }

/-- The default points of a curve (R109). -/
def defaultCurve : Vector Nat 9 := #v[0, 16, 32, 48, 64, 80, 96, 112, 127]

/-- The part right after it left a cold reset: Tables 1-2, 2-2, 3-3, 4-3, 5-5, 6-6, 7-4, 8-6, 9-3, 10-2, 11-4. -/
def State.reset : State where
  heldInReset := false
  frameTicks := 0
  openTick := none
  ksu :=
    { buttons := Contacts.reset 96, tabs := Contacts.reset 12, chins := Contacts.reset 4, latentButtons := 0,
      latentChins := 0, debounceCount := 3, settleTime := 30, group := TabGroup.reset 12,
      switches := Vector.replicate 4 ChinSwitch.reset, octave := 0, scanPeriod := .us250 }
  blr :=
    { lineSelect := .auto, conductor := .main, trim := 0, lossTime := 40, receiver := .awaitingIdle,
      assembler := .seeking, gapRunning := false, complete := none, link := .down, lossTimer := 0, image := 0,
      latent := 0, errors := 0, group := TabGroup.reset 5, tabImage := 0 }
  bwu :=
    { offset := 0, deadBand := 24, restCount := 8, window := 60, shift := 2, direction := .rest, departed := .none,
      restRun := 0, restAge := 0, smoothed := 0, reversals := 0, faultRun := 0, faultDeclared := false,
      calibration := .idle }
  htm :=
    { map := Vector.ofFn fun i => some i.val, trebleBase := 24, bassBase := 40, chordBase := 52, holds := [],
      trebleSustain := false, bassSustain := false }
  sdt := { records := [], serial := 0 }
  val :=
    { voices := Vector.replicate 128 Voice.reset, waiting := [], stamp := 0, joined := Vector.replicate 4 0,
      minSounding := 2 }
  exu := { curves := Vector.replicate 16 defaultCurve, threshold := 2 }
  vbc :=
    { bus := .held, destination := .quiet, engines := Vector.replicate 4 Engine.absent, expected := 15,
      wakeTime := 100, wakeTimer := none, holdOff := none, closeTimer := none, wakeAttempts := 0, sendList := [],
      clearPending := 0, rotation := 0, echo := BitVec.allOnes 48, answer := .closed, downstream := [] }
  rsa :=
    { table := Vector.replicate 32 { treble := Half.default 12, bass := Half.default 5 },
      treble := { layers := [Layer.default], entry := 0 }, bass := { layers := [Layer.default], entry := 0 },
      generation := 0, pass := none }
  act := { activity := .setup, hush := 0, hushTime := 20 }
  cpt :=
    { buffer := [], response := { status := .ok, payload := [] }, busy := false, notices := 0, enabled := 0,
      clockedOut := [] }
  freeCount := 0
  pending := []

end Sys2Proof.Machine
end

