-- ==== Sys2Proof/Machine/Flags.lean ====
section
/-! DEFINITION. The flags: the 21 notices with the attention line, the level-dirty test, the quiet conditions and
whether the hush expiry is due. -/

namespace Sys2Proof.Machine

/-- The notices (Table 11-3). -/
inductive Notice where
  | tabNomatch | applyDone | chin (n : Fin 4) | holdFull | recordFull | holderFull | starved | tailOverrun | linkLost
  | linkBack | sensorFault | engineLost | engineJoined | busNoEngine | resting | woke | calDone | calFailed
  deriving DecidableEq, Repr

/-- The bit of each notice (Table 11-3). -/
def Notice.bit : Notice → Nat
  | .tabNomatch => 0
  | .applyDone => 1
  | .chin n => 2 + n.val
  | .holdFull => 6
  | .recordFull => 7
  | .holderFull => 8
  | .starved => 9
  | .tailOverrun => 10
  | .linkLost => 11
  | .linkBack => 12
  | .sensorFault => 13
  | .engineLost => 14
  | .engineJoined => 15
  | .busNoEngine => 16
  | .resting => 17
  | .woke => 18
  | .calDone => 19
  | .calFailed => 20

/-- The flag of a notice among 21. -/
def Notice.mask (n : Notice) : BitVec 21 := BitVec.twoPow 21 n.bit

/-- R169: a notice's cause sets its flag, whatever the enable set and whether or not it is set. -/
def State.setNotice (n : Notice) (s : State) : State :=
  { s with cpt := { s.cpt with notices := s.cpt.notices ||| n.mask } }

/-- Whether a notice's flag is set. -/
def State.noticeSet (s : State) (n : Notice) : Bool := s.cpt.notices.getLsbD n.bit

/-- R170: the attention line is asserted while an enabled flag is set, and released while the part is held in reset
(R161). -/
def State.attention (s : State) : Bool := !s.heldInReset && s.cpt.notices &&& s.cpt.enabled != 0

/-- The nine row drives of the treble matrix: idle, or driven in turn within each scan. -/
inductive RowDrives where
  | idle | inTurn
  deriving DecidableEq, Repr

/-- R2, R161: the row drives are idle while the part is held in reset and driven in turn otherwise, scan after scan.
Which row is driven at an instant within a scan is not kept (notes/assumptions/29.md). -/
def State.rowDrives (s : State) : RowDrives := if s.heldInReset then .idle else .inTurn

/-- R115: whether a target level must be sent, from the level last sent and the level step threshold. -/
def levelDirty (threshold target lastSent : Nat) : Bool :=
  threshold ≤ max (target - lastSent) (lastSent - target) || ((target == 0 || target == 127) && target != lastSent)

/-- R157: the quiet conditions. -/
def State.quiet (s : State) : Bool :=
  s.htm.holds.isEmpty && s.sdt.records.isEmpty && s.val.voices.toList.all (fun v => v.state == .free) &&
    s.vbc.sendList.isEmpty && s.bwu.direction == .rest && s.rsa.pass.isNone && s.bwu.calibration == .idle

/-- R157: in PLAYING, a failing quiet condition sets the hush timer to 0. -/
def State.watchQuiet (s : State) : State :=
  if s.act.activity = .playing ∧ s.quiet = false then { s with act := { s.act with hush := 0 } } else s

/-- R158: the hush timer's expiry is due: in PLAYING, with a hush time of 1 or more, every quiet condition holding
and the count at the hush time × 1000. -/
def State.hushDue (s : State) : Bool :=
  s.act.activity = .playing && decide (1 ≤ s.act.hushTime) && s.quiet && decide (s.act.hushTime * 1000 ≤ s.act.hush)

/-- R158: the hush timer's expiry falls at the instant that stands: it is due, and the tick that stands is a millisecond
tick, whose expiries are still to come. -/
def State.hushAtHand (s : State) : Bool := s.hushDue && s.openTick.any (·.millisecond)

end Sys2Proof.Machine
end

