-- ==== Sys2Proof/Machine/Operands.lean ====
section
/-! DEFINITION. What the bytes and bits of a command carry, and back: the coded values of R172, the settings, layers
and registrations of R177, the contacts' and buttons' bits, and the pitches the key maps give a button. -/

namespace Sys2Proof.Machine

/-! ## Clamps and bits -/

/-- The nearest limit of `lo..hi` (0.6, Settings). -/
def clamp (lo hi x : Nat) : Nat := max lo (min x hi)

/-- The nearest limit of `lo..hi`, for a signed value (0.6, Settings). -/
def clampInt (lo hi x : Int) : Int := max lo (min x hi)

/-- The numbers of the set bits, ascending. -/
def bitsOf {n : Nat} (x : BitVec n) : List (Fin n) := (List.finRange n).filter fun i => x.getLsbD i.val

/-- A pattern with one bit cleared. -/
def clearBit {n : Nat} (x : BitVec n) (i : Nat) : BitVec n := x &&& ~~~ BitVec.twoPow n i

/-- Two bytes as a number, low byte first (R172). -/
def wordAt {w : Nat} (x : BitVec w) (i : Nat) : Nat := (x.extractLsb' (8 * i) 16).toNat

/-- A byte in two's complement (R172). -/
def signedAt {w : Nat} (x : BitVec w) (i : Nat) : Int := (byteAt x i).toInt

/-! ## Coded values (R172) -/

/-- TREBLE 0, BASS 1; any other side byte is outside the list (R177). -/
def sideOf (b : Byte) : Option Side := if b = 0 then some .treble else if b = 1 then some .bass else none

/-- TREBLE 0, BASS 1, BOTH 2; any other byte is outside the list (R177). -/
def sidesOf (b : Byte) : Option Sides :=
  if b = 0 then some .treble else if b = 1 then some .bass else if b = 2 then some .both else none

/-- Whether a side is one of those named. -/
def Sides.has : Sides → Side → Bool
  | .treble, .treble | .bass, .bass | .both, _ => true
  | _, _ => false

/-- The sides named one by one, `none` where there is none. -/
def Sides.ofFlags : Bool → Bool → Option Sides
  | true, true => some .both
  | true, false => some .treble
  | false, true => some .bass
  | false, false => none

/-- The one side, as a side argument. -/
def sidesOne : Side → Sides
  | .treble => .treble
  | .bass => .bass

def sideCode : Side → Byte
  | .treble => 0
  | .bass => 1

def Sides.code : Sides → Byte
  | .treble => 0
  | .bass => 1
  | .both => 2

def edgeOf (b : Byte) : Option EdgeSelect :=
  if b = 0 then some .press else if b = 1 then some .release else if b = 2 then some .both else none

def EdgeSelect.code : EdgeSelect → Byte
  | .press => 0
  | .release => 1
  | .both => 2

def actionOf (b : Byte) : Option ChinAction :=
  [ChinAction.none, .notice, .sustainHold, .sustainToggle, .octaveUp, .octaveDown, .recall, .silence][b.toNat]?

def ChinAction.code : ChinAction → Byte
  | .none => 0
  | .notice => 1
  | .sustainHold => 2
  | .sustainToggle => 3
  | .octaveUp => 4
  | .octaveDown => 5
  | .recall => 6
  | .silence => 7

def lineSelectOf (b : Byte) : Option LineSelect :=
  if b = 0 then some .main else if b = 1 then some .spare else if b = 2 then some .auto else none

def LineSelect.code : LineSelect → Byte
  | .main => 0
  | .spare => 1
  | .auto => 2

def modeOf (b : Byte) : Option SwitchMode := if b = 0 then some .carry else if b = 1 then some .next else none

def SwitchMode.code : SwitchMode → Byte
  | .carry => 0
  | .next => 1

def Conductor.code : Conductor → Byte
  | .main => 0
  | .spare => 1

def Link.code : Link → Byte
  | .down => 0
  | .up => 1
  | .lost => 2

def Direction.code : Direction → Byte
  | .push => 0
  | .pull => 1
  | .rest => 2

def SlotStatus.code : SlotStatus → Byte
  | .voiced _ => 0
  | .waiting => 1
  | .starved => 2
  | .empty => 3
  | .skipped => 4

def VoiceState.code : VoiceState → Byte
  | .free => 0
  | .sounding => 1
  | .releasing => 2
  | .cutting => 3

def Pending.code : Pending → Byte
  | .none => 0
  | .start => 1
  | .startRelease => 2
  | .release => 3
  | .cut => 4
  | .accent => 5

def BusState.code : BusState → Byte
  | .held => 0
  | .quiet => 1
  | .waking => 2
  | .running => 3
  | .closing => 4

def Activity.code : Activity → Byte
  | .setup => 0
  | .playing => 1
  | .resting => 2

/-- The status codes of Table 12-6. -/
def Status.code : Status → Byte
  | .ok => 0x00
  | .accepted => 0x01
  | .noRecord => 0x02
  | .badArg => 0x03
  | .wrongState => 0x04
  | .notReady => 0x05
  | .malformed => 0x06
  | .unknown => 0x07

/-- A flag byte or present byte of a response: 0 for clear, and for set 1, which is the model's choice (R177 says only that
any value but 0 is set; notes/assumptions/30.md). -/
def flagByte (b : Bool) : Byte := if b then 1 else 0

/-- A button in a holder entry: T*i* as *i*, B*k* as 128 + *k* (Table 12-7). -/
def Button.code : Button → Byte
  | .treble i => BitVec.ofNat 8 i.val
  | .bass k => BitVec.ofNat 8 (128 + k.val)

/-- A byte for a number. -/
def natByte (x : Nat) : Byte := BitVec.ofNat 8 x

/-- A two's complement byte for a signed number (R172). -/
def intByte (x : Int) : Byte := BitVec.ofInt 8 x

/-! ## Layers and registration halves (R144, R145, R177) -/

/-- The engine mask byte keeps bits 0..3 (R177). -/
def engineMaskOf (b : Byte) : BitVec 4 := b.setWidth 4

/-- The layer record of 11 bytes at byte `i`, its fields clamped as R144 states. -/
def layerAt {w : Nat} (x : BitVec w) (i : Nat) : Layer :=
  { timbre := clamp 0 511 (wordAt x i)
    transpose := clampInt (-24) 24 (signedAt x (i + 2))
    curve := clamp 0 15 (byteAt x (i + 3)).toNat
    volume := clamp 0 127 (byteAt x (i + 4)).toNat
    tilt := clampInt (-8) 7 (signedAt x (i + 5))
    priority := clamp 0 7 (byteAt x (i + 6)).toNat
    engineMask := engineMaskOf (byteAt x (i + 7))
    tailLimit := clamp 10 5000 (wordAt x (i + 8))
    late := (byteAt x (i + 10)).getLsbD 0
    accent := (byteAt x (i + 10)).getLsbD 1 }

/-- A registration half of 49 bytes of a side with `n` tabs; `none` where R145 refuses it. -/
def halfOf (n : Nat) (x : BitVec 392) : Option (Half n) :=
  let count := (byteAt x 0).toNat
  let layers := (List.range count).map fun j => layerAt x (5 + 11 * j)
  match modeOf (byteAt x 1) with
  | none => none
  | some mode =>
    if count ≤ 4 ∧ layers.all (fun l => l.engineMask != 0) then
      some { layers := layers
             pattern := if byteAt x 2 = 0 then none else some (x.extractLsb' 24 n)
             mode := mode }
    else none

/-- The 11 bytes of a layer record; its flags are bit 0 LATE and bit 1 ACCENT. -/
def layerBytes (l : Layer) : List Byte :=
  bytesOfNat 2 l.timbre ++
    [intByte l.transpose, natByte l.curve, natByte l.volume, intByte l.tilt, natByte l.priority,
      l.engineMask.setWidth 8] ++
    bytesOfNat 2 l.tailLimit ++ [(if l.late then 1 else 0) ||| (if l.accent then 2 else 0)]

/-- The 49 bytes of a registration half; layer records beyond the layer count are zeros. -/
def halfBytes {n : Nat} (h : Half n) : List Byte :=
  [natByte h.layers.length, h.mode.code, flagByte h.pattern.isSome] ++
    bytesOfNat 2 ((h.pattern.map BitVec.toNat).getD 0) ++ h.layers.flatMap layerBytes ++
    List.replicate (11 * (4 - h.layers.length)) 0

/-! ## The settings of PUT_SETUP and GET_SETUP (R167, R177) -/

/-- Where chin switch `n`'s five bytes begin. -/
def chinOffset (n : Nat) : Nat := 8 + 5 * n

/-- Whether no value of the request breaks a refusal of R167. -/
def setupAccepted (x : BitVec 352) : Bool :=
  (List.range 4).all (fun n =>
    (edgeOf (byteAt x (chinOffset n))).isSome && (actionOf (byteAt x (chinOffset n + 1))).isSome &&
      (sidesOf (byteAt x (chinOffset n + 2))).isSome && (sidesOf (byteAt x (chinOffset n + 4))).isSome) &&
    (lineSelectOf (byteAt x 29)).isSome

/-- Chin switch `n`'s settings; a value outside its list (refused before) reads as the first of it. -/
def chinSwitchAt (x : BitVec 352) (n : Nat) : ChinSwitch :=
  { edge := (edgeOf (byteAt x (chinOffset n))).getD .press
    action := (actionOf (byteAt x (chinOffset n + 1))).getD .none
    side := (sidesOf (byteAt x (chinOffset n + 2))).getD .treble
    registration := clamp 0 31 (byteAt x (chinOffset n + 3)).toNat
    halves := (sidesOf (byteAt x (chinOffset n + 4))).getD .treble }

/-- The expected engine mask: bits 0..3, and 1 where they are 0 (R141). -/
def expectedMaskOf (b : Byte) : BitVec 4 := if engineMaskOf b = 0 then 1 else engineMaskOf b

/-- The five bytes of a chin switch's settings. -/
def ChinSwitch.bytes (c : ChinSwitch) : List Byte :=
  [c.edge.code, c.action.code, c.side.code, natByte c.registration, c.halves.code]

/-- The 44 bytes of every setting, as GET_SETUP returns them. -/
def State.setupBytes (s : State) : List Byte :=
  [natByte s.ksu.debounceCount, natByte s.ksu.settleTime] ++ bytesOfNat 2 s.ksu.group.mask.toNat ++
    bytesOfNat 2 s.ksu.group.reference.toNat ++ [s.blr.group.mask.setWidth 8, s.blr.group.reference.setWidth 8] ++
    s.ksu.switches.toList.flatMap ChinSwitch.bytes ++
    [intByte s.ksu.octave, s.blr.lineSelect.code, intByte s.blr.trim, natByte s.blr.lossTime] ++
    bytesOfNat 2 (BitVec.ofInt 16 s.bwu.offset).toNat ++
    [natByte s.bwu.deadBand, natByte s.bwu.restCount, natByte s.bwu.window, natByte s.bwu.shift,
      natByte s.val.minSounding, natByte s.exu.threshold, s.vbc.expected.setWidth 8] ++
    bytesOfNat 2 s.vbc.wakeTime ++ [natByte s.act.hushTime]

/-! ## The key maps (R51 to R54) -/

/-- A map entry byte: 0xFF is UNUSED, 96..254 clamp to 95 (R54, R177). -/
def mapEntryOf (b : Byte) : Option Nat := if b = 0xFF then none else some (clamp 0 95 b.toNat)

/-- The pitch within 0..127, or absent (R51, R70). -/
def pitchOf (p : Int) : Option Nat := if 0 ≤ p ∧ p ≤ 127 then some p.toNat else none

/-- R51: the played pitches of a treble button; `none` for an UNUSED entry. -/
def treblePitches (entry : Option Nat) (base : Nat) (octave : Int) : Option (List Nat) :=
  entry.map fun offset => (pitchOf ((base : Int) + offset + 12 * octave)).toList

/-- R52: the root class of a bass button's column. -/
def rootClass (column : Nat) : Int := (7 * ((column : Int) - 8)) % 12

/-- Table 4-2: what a bass row adds to the root, in mapping order. -/
def rowClasses (row : Nat) : List Int :=
  match row with
  | 0 => [4]
  | 1 => [0]
  | 2 => [0, 4, 7]
  | 3 => [0, 3, 7]
  | 4 => [0, 4, 10]
  | _ => [0, 3, 9]

/-- R53: a pitch class folded into the twelve pitches that begin at a base. -/
def fold (base : Nat) (cls : Int) : Nat := base + ((cls - base) % 12).toNat

/-- R52, R53: the played pitches of bass button `k`, in mapping order. -/
def bassPitches (bassBase chordBase : Nat) (k : Fin 120) : List Nat :=
  let row := k.val % 6
  (rowClasses row).map fun c => fold (if row < 2 then bassBase else chordBase) ((rootClass (k.val / 6) + c) % 12)

/-- The sounding pitch of a slot: played pitch plus transpose, absent outside 0..127 (R70). -/
def soundingPitch (played : Nat) (transpose : Int) : Option Nat := pitchOf ((played : Int) + transpose)

/-! ## The bass frame (R173, R174) -/

/-- The button image: B*k* is bit *k* of bytes 1..15. -/
def frameButtons (frame : BitVec 160) : BitVec 120 := frame.extractLsb' 8 120

/-- The tab image: bits 0..4 of byte 16. -/
def frameTabs (frame : BitVec 160) : BitVec 5 := frame.extractLsb' 128 5

/-- The raw sample: 12 bits of bytes 17 and 18, in two's complement. -/
def frameSample (frame : BitVec 160) : Int := (frame.extractLsb' 136 12).toInt

/-- The sensor-fault bit: bit 7 of byte 18. -/
def frameFault (frame : BitVec 160) : Bool := frame.getLsbD 151

/-! ## The sampled line (R19, R20) -/

/-- The sample at which bit `k` of a character is taken, counted from sample 0. -/
def samplePoint (k : Nat) (trim : Int) : Int := 16 * (k : Int) + 8 + trim

/-- Bit `k` of the character in the line's samples. -/
def lineBit (line : BitVec 176) (trim : Int) (k : Nat) : Bool := line.getLsbD (samplePoint k trim).toNat

/-- The data byte of the character: data bits 0..7 are bits 1..8 of it. -/
def lineByte (line : BitVec 176) (trim : Int) : Byte := BitVec.ofFnLE fun i => lineBit line trim (i.val + 1)

/-- Whether the count of ones among the data bits and the parity bit is even. -/
def parityGood (line : BitVec 176) (trim : Int) : Bool :=
  ((List.range 9).countP fun k => lineBit line trim (k + 1)) % 2 == 0

/-! ## The upstream frame (R129, R130, R175, R176) -/

/-- The presence bits of E0..E3. -/
def presenceBits (frame : BitVec 56) : BitVec 4 := frame.extractLsb' 0 4

/-- The report field: bytes 1..6. -/
def reportField (frame : BitVec 56) : BitVec 48 := frame.extractLsb' 8 48

/-- What a valid report field says. -/
inductive Report where
  | join (engine : Fin 4) (capacity : Nat)
  | done (engine : Fin 4) (lcl : Nat) (tag : BitVec 2)
  | leave (engine : Fin 4)
  deriving DecidableEq, Repr

/-- R130: the report of a field; the idle field and every field that is not valid carry none. -/
def reportOf (field : BitVec 48) : Option Report :=
  if field = BitVec.allOnes 48 ∨ byteSum field 6 % 256 ≠ 0xFF then none
  else if h : (byteAt field 1).toNat < 4 then
    let e : Fin 4 := ⟨(byteAt field 1).toNat, h⟩
    let arg := (byteAt field 2).toNat
    if byteAt field 0 = 0x01 then some (.join e (clamp 8 32 arg))
    else if byteAt field 0 = 0x02 then
      if arg ≤ 31 then some (.done e arg (field.extractLsb' 24 2)) else none
    else if byteAt field 0 = 0x03 then some (.leave e)
    else none
  else none

end Sys2Proof.Machine
end

