-- ==== Sys2Proof/Machine/Ops.lean ====
section
/-! DEFINITION. The named operations over the registers and tables of the part that the meanings share: voice entries,
the Send List, records and slots, the presence table; and `State.event` and `State.live`, which keep a held part still. -/

namespace Sys2Proof.Machine

/-- An event that reaches no quiet condition; nothing happens while the part is held in reset (R161). -/
def State.event (f : State → State) (s : State) : Host.Outcome State Fault Refusal :=
  .next (if s.heldInReset then s else f s)

/-- An event after which the quiet conditions are watched (R157); nothing happens while the part is held in reset
(R161). -/
def State.live (f : State → State) (s : State) : Host.Outcome State Fault Refusal :=
  s.event fun s => (f s).watchQuiet

/-! ## Choosing -/

/-- The first element of least measure. -/
def leastBy {α : Type} (f : α → Nat) : List α → Option α
  | [] => none
  | a :: l =>
    match leastBy f l with
    | none => some a
    | some b => if f b < f a then some b else some a

/-- Put an element before the first of no smaller measure. -/
def insertBy {α : Type} (f : α → Nat) (a : α) : List α → List α
  | [] => [a]
  | b :: l => if f a ≤ f b then a :: b :: l else b :: insertBy f a l

/-- The elements by ascending measure. Those of equal measure keep their order, which is the model's choice where the
measure is a stamp (R61, R68, R148; notes/assumptions/14.md). -/
def sortBy {α : Type} (f : α → Nat) : List α → List α
  | [] => []
  | a :: l => insertBy f a (sortBy f l)

/-! ## Ticks (R1) -/

/-- The millisecond ticks since the last reset, as press times count them (R1, R55). -/
def State.msTicks (s : State) : BitVec 32 := BitVec.ofNat 32 (s.frameTicks / 4)

/-- The moment a length in milliseconds after this one: four frame ticks to the millisecond (R1). -/
def State.momentAfter (s : State) (ms : Nat) : Nat := s.frameTicks + 4 * ms

/-! ## Engines -/

/-- The engine of a voice id (6.1). -/
def engineOf (v : Fin 128) : Fin 4 := ⟨v.val / 32, by omega⟩

/-- The local number of a voice id (6.1). -/
def localOf (v : Fin 128) : Nat := v.val % 32

/-- Voice id engine × 32 + local number, for a local number within 0..31. -/
def voiceOf (e : Fin 4) (lcl : Nat) : Fin 128 := ⟨e.val * 32 + lcl % 32, by omega⟩

/-- The voices of an engine, by ascending local number. -/
def voicesOf (e : Fin 4) : List (Fin 128) := (List.range 32).map (voiceOf e)

def State.engine (s : State) (e : Fin 4) : Engine := s.vbc.engines[e]

def State.setEngine (e : Fin 4) (x : Engine) (s : State) : State :=
  { s with vbc := { s.vbc with engines := s.vbc.engines.set e x } }

/-- The engines that are PRESENT, as a set. -/
def State.presentMask (s : State) : BitVec 4 := BitVec.ofFnLE fun e => (s.engine e).present

def State.setJoined (e : Fin 4) (capacity : Nat) (s : State) : State :=
  { s with val := { s.val with joined := s.val.joined.set e capacity } }

/-! ## Voices and the Send List -/

def State.voice (s : State) (v : Fin 128) : Voice := s.val.voices[v]

def State.setVoice (v : Fin 128) (x : Voice) (s : State) : State :=
  { s with val := { s.val with voices := s.val.voices.set v x } }

def State.setSendList (l : List SendEntry) (s : State) : State := { s with vbc := { s.vbc with sendList := l } }

/-- R123: what becomes of the Send List when a voice's pending command changes from `old` to `new`: it leaves at none,
joins the tail from none, and otherwise keeps its place with the new start contents. -/
def sendListAfter (l : List SendEntry) (v : Fin 128) (old new : Pending) (contents : Option StartContents) :
    List SendEntry :=
  if new = .none then l.filter fun e => e.voice ≠ v
  else if old = .none then l ++ [{ voice := v, start := contents }]
  else l.map fun e => if e.voice = v then { voice := v, start := contents } else e

/-- The start contents the Send List holds for a voice. -/
def State.startContents (s : State) (v : Fin 128) : Option StartContents :=
  (s.vbc.sendList.find? fun e => e.voice = v).bind (·.start)

/-- R123: give a voice a pending command and keep the Send List in step. -/
def State.setPending (v : Fin 128) (cmd : Pending) (contents : Option StartContents) (s : State) : State :=
  (s.setVoice v { s.voice v with pending := cmd }).setSendList
    (sendListAfter s.vbc.sendList v (s.voice v).pending cmd contents)

/-- R90: the voice stamp is taken and the counter goes on. -/
def State.nextStamp (s : State) : State := { s with val := { s.val with stamp := s.val.stamp + 1 } }

def State.setWaiting (l : List SlotRef) (s : State) : State := { s with val := { s.val with waiting := l } }

/-! ## Records and slots -/

def State.record? (s : State) (k : Key) : Option Record := s.sdt.records.find? fun r => r.key = k

def State.setRecords (l : List Record) (s : State) : State := { s with sdt := { s.sdt with records := l } }

/-- Change the record of a key, if there is one. -/
def State.changeRecord (k : Key) (f : Record → Record) (s : State) : State :=
  s.setRecords (s.sdt.records.map fun r => if r.key = k then f r else r)

/-- Delete the record of a key. -/
def State.dropRecord (k : Key) (s : State) : State := s.setRecords (s.sdt.records.filter fun r => r.key ≠ k)

/-- The measure of the enumeration order: treble before bass, then by played pitch (R83); pitches are below 128. -/
def Key.place (k : Key) : Nat :=
  match k.side with
  | .treble => k.pitch
  | .bass => 128 + k.pitch

def State.slot? (s : State) (r : SlotRef) : Option Slot := (s.record? r.key).bind fun x => x.slots[r.slot]?

/-- Change a slot, if it exists. -/
def State.changeSlot (r : SlotRef) (f : Slot → Slot) (s : State) : State :=
  s.changeRecord r.key fun x => { x with slots := x.slots.modify r.slot f }

def State.setStatus (r : SlotRef) (st : SlotStatus) (s : State) : State :=
  s.changeSlot r fun x => { x with status := st }

/-- Put a slot at an index: in the place of the one there, or after the last (R75, R152). -/
def State.putSlot (r : SlotRef) (x : Slot) (s : State) : State :=
  s.changeRecord r.key fun y =>
    { y with slots := if r.slot < y.slots.length then y.slots.set r.slot x else y.slots ++ [x] }

/-- The side's current registration copy (R146). -/
def State.current (s : State) : Side → CurrentCopy
  | .treble => s.rsa.treble
  | .bass => s.rsa.bass

/-- A side's sustain state (4.9). -/
def State.sustain (s : State) : Side → Bool
  | .treble => s.htm.trebleSustain
  | .bass => s.htm.bassSustain

def State.setHolds (l : List Hold) (s : State) : State := { s with htm := { s.htm with holds := l } }

/-- The hold of a button, if it has one (R55). -/
def State.hold? (s : State) (b : Button) : Option Hold := s.htm.holds.find? fun h => h.button = b

end Sys2Proof.Machine
end

