-- ==== Sys2Proof/Machine/Clock.lean ====
section
/-! DEFINITION. The frame ticks and millisecond ticks of R1 as they begin: the count of moments, the timers that a
millisecond tick counts, and what a tick that stands still owes. Notes: notes/assumptions/6.md. -/

namespace Sys2Proof.Machine

/-- A settle timer after a millisecond tick (R9). -/
def GroupState.count : GroupState → GroupState
  | .armed => .armed
  | .settling left => .settling (left - 1)

/-- The timers of the bus after a millisecond tick (R133, R134, R137). -/
def Vbc.count (b : Vbc) : Vbc :=
  { b with
    wakeTimer := b.wakeTimer.map (· - 1), holdOff := b.holdOff.map (· - 1), closeTimer := b.closeTimer.map (· - 1) }

/-- R157: the hush timer at a millisecond tick, from whether every quiet condition holds. -/
def Act.count (quiet : Bool) (a : Act) : Act :=
  if a.activity = .playing then { a with hush := if quiet then min 60000 (a.hush + 1) else 0 } else a

/-- R1: the millisecond tick counts the loss, settle, wake, hold-off, close and hush timers; a tail runs to a moment
(R99), so the count of moments counts it. -/
def State.countTimers (s : State) : State :=
  { s with
    ksu := { s.ksu with group := { s.ksu.group with state := s.ksu.group.state.count } }
    blr := { s.blr with
      lossTimer := s.blr.lossTimer + 1, group := { s.blr.group with state := s.blr.group.state.count } }
    vbc := s.vbc.count
    act := s.act.count s.quiet }

/-- R1: the next frame tick begins; a millisecond tick counts the timers as it begins. That the counting comes before all
else of the tick, so that what its visits or frame start or restore counts from the next millisecond tick (R157), is
the model's choice (notes/assumptions/3.md). -/
def State.beginTick (s : State) : State :=
  let ms := (s.frameTicks + 1) % 4 == 0
  let s1 := if ms then s.countTimers else s
  { s1 with
    frameTicks := s.frameTicks + 1
    openTick := some { bus := s.vbc.bus, frame := true, visits := true, millisecond := ms } }

/-- R121: whether the tick that stands still owes the frame of the bus state in force. The first frame of a state is built
at a tick that begins after the state is entered. -/
def State.owesFrame (s : State) : Bool := s.openTick.any fun o => o.frame && o.bus == s.vbc.bus

/-- R1, R148: whether the tick that stands still owes the visits of an apply pass. -/
def State.owesVisits (s : State) : Bool := s.openTick.any (·.visits)

end Sys2Proof.Machine
end

