-- ==== Sys2Proof/Machine/Expression.lean ====
section
/-! DEFINITION. The Expression Unit (chapter 7): the level of a voice, the events that compute levels, and the
accents of a reversal. -/

namespace Sys2Proof.Machine

/-- R110: the curve value for a smoothed value S; the division by 128 rounds toward minus infinity. -/
def curveValue (y : Vector Nat 9) (smoothed : Nat) : Nat :=
  let x := smoothed / 16
  let i := x / 128
  let r := x % 128
  let y0 : Int := y.getD i 0
  let y1 : Int := y.getD (i + 1) 0
  (y0 + (y1 - y0) * r / 128).toNat

/-- R111: the volume step. -/
def volumeStep (c volume : Nat) : Nat := (c * volume + 63) / 127

/-- R112: the tilt step; the division by 16 rounds toward minus infinity. -/
def tiltStep (tilt : Int) (pitch : Nat) : Int := tilt * ((pitch : Int) - 60) / 16

/-- R113: the target level of a slot's voice, from the points of the curve its snapshot names and S. -/
def slotLevel (y : Vector Nat 9) (smoothed : Nat) (x : Slot) : Nat :=
  if x.mute then 0
  else
    match x.override with
    | some level => level
    | none =>
      let v := volumeStep (curveValue y smoothed) x.layer.volume
      if v = 0 then 0 else (clampInt 0 127 (v + tiltStep x.layer.tilt (x.soundingPitch.getD 60))).toNat

/-- The target level of a slot's voice as the part stands (R113). -/
def State.levelOf (s : State) (x : Slot) : Nat :=
  slotLevel (s.exu.curves.getD x.layer.curve (Vector.replicate 9 0)) s.bwu.smoothed x

/-- The slot that a SOUNDING voice renders (R89). -/
def State.ownerSlot (s : State) (v : Fin 128) : Option Slot :=
  if (s.voice v).state = .sounding then (s.voice v).owner.bind s.slot? else none

/-- R114: write a voice's target level; only a SOUNDING voice has one to compute. -/
def State.computeTarget (v : Fin 128) (s : State) : State :=
  match s.ownerSlot v with
  | none => s
  | some x => s.setVoice v { s.voice v with target := s.levelOf x }

/-- R114, R115: write a SOUNDING voice's target level and decide its level-dirty flag. -/
def State.updateLevel (v : Fin 128) (s : State) : State :=
  match s.ownerSlot v with
  | none => s
  | some x =>
    s.setVoice v
      { s.voice v with
        target := s.levelOf x
        dirty := levelDirty s.exu.threshold (s.levelOf x) (s.voice v).lastSent }

/-- R114: the update signal, and the signal of a link loss or a declared fault: every SOUNDING voice, ascending. -/
def State.updateLevels (s : State) : State := (List.finRange 128).foldl (fun s v => s.updateLevel v) s

/-- R114: every SOUNDING voice whose owner slot's snapshot names the curve, ascending. -/
def State.updateCurve (curve : Nat) (s : State) : State :=
  (List.finRange 128).foldl
    (fun s v => if (s.ownerSlot v).any (fun x => x.layer.curve = curve) then s.updateLevel v else s) s

/-- R73: an accent asked for a voice: only a voice with no pending command is given one. -/
def State.accent (v : Fin 128) (s : State) : State :=
  if (s.voice v).pending = .none then s.setPending v .accent none else s

/-- R117: the reversal signal: every SOUNDING voice whose layer has ACCENT set, ascending. -/
def State.reversalAccents (s : State) : State :=
  (List.finRange 128).foldl (fun s v => if (s.ownerSlot v).any (·.layer.accent) then s.accent v else s) s

end Sys2Proof.Machine
end

