-- ==== Sys2Proof/Machine/Voices.lean ====
section
/-! DEFINITION. The Voice Allocator (chapter 6): grant, allocation and stealing, release, cut, tails, DONE reports,
the Waiting List, and engines joining and leaving. -/

namespace Sys2Proof.Machine

/-- R91: a voice is available when its engine is PRESENT and its local number is below the joined capacity. -/
def State.available (s : State) (v : Fin 128) : Bool :=
  (s.engine (engineOf v)).present && localOf v < s.val.joined[engineOf v]

/-- R91: an engine is allowed for an engine mask when its bit is set, it is PRESENT and its joined capacity is not 0. -/
def State.allowed (s : State) (mask : BitVec 4) (e : Fin 4) : Bool :=
  mask.getLsbD e.val && (s.engine e).present && s.val.joined[e] != 0

/-- The FREE available voices of an engine, by ascending local number. -/
def State.freeVoices (s : State) (e : Fin 4) : List (Fin 128) :=
  (voicesOf e).filter fun v => s.available v && (s.voice v).state == .free

/-- R92 step 1: the lowest FREE available voice of the allowed engine that has the most, the lowest engine on a tie. -/
def State.chooseFree (s : State) (mask : BitVec 4) : Option (Fin 128) :=
  (leastBy (fun e => 32 - (s.freeVoices e).length) ((List.finRange 4).filter (s.allowed mask))).bind
    fun e => (s.freeVoices e).head?

/-- The available voices of the allowed engines, ascending. -/
def State.candidates (s : State) (mask : BitVec 4) : List (Fin 128) :=
  (List.finRange 128).filter fun v => s.allowed mask (engineOf v) && s.available v

/-- R92 step 2: the tail with the oldest release stamp. -/
def State.chooseTail (s : State) (mask : BitVec 4) : Option (Fin 128) :=
  leastBy (fun v => (s.voice v).releaseStamp.toNat)
    ((s.candidates mask).filter fun v => (s.voice v).state == .releasing)

/-- R92 step 3: among the SOUNDING voices of a priority below `p`, the lowest priority and then the oldest start. -/
def State.chooseLower (s : State) (mask : BitVec 4) (p : Nat) : Option (Fin 128) :=
  let priority := fun v => ((s.ownerSlot v).map (·.layer.priority)).getD p
  leastBy (fun v => priority v * 2 ^ 32 + (s.voice v).startStamp.toNat)
    ((s.candidates mask).filter fun v => (s.voice v).state == .sounding && priority v < p)

/-- R92: the voice an allocation takes, if any. -/
def State.chooseVoice (s : State) (mask : BitVec 4) (p : Nat) : Option (Fin 128) :=
  (s.chooseFree mask).or ((s.chooseTail mask).or (s.chooseLower mask p))

/-- R93: a voice is granted to a slot. -/
def State.grant (v : Fin 128) (r : SlotRef) (s : State) : State :=
  match s.slot? r with
  | none => s
  | some x =>
    let s1 := s.setVoice v
      { s.voice v with
        state := .sounding, owner := some r, side := r.key.side, tag := (s.voice v).tag + 1
        startStamp := s.val.stamp, eligibleFrom := none, tail := .absent }
    let s2 := s1.nextStamp.setPending v .start
      (some { timbre := x.layer.timbre, pitch := x.soundingPitch.getD 0 })
    (s2.setStatus r (.voiced v)).computeTarget v

/-- R103: the entry of a slot leaves the Waiting List. -/
def State.leaveWaiting (r : SlotRef) (s : State) : State := s.setWaiting (s.val.waiting.filter (· ≠ r))

/-- R103: the entry of a slot joins the tail of the Waiting List. -/
def State.joinWaiting (r : SlotRef) (s : State) : State := s.setWaiting (s.val.waiting ++ [r])

/-- The engine mask of a slot; a slot that is not there names no engine. -/
def State.slotMask (s : State) (r : SlotRef) : BitVec 4 := ((s.slot? r).map (·.layer.engineMask)).getD 0

/-- R104: an entry appended while the bus is RUNNING is served at once if an allowed engine has a FREE voice. -/
def State.waitOrServe (r : SlotRef) (s : State) : State :=
  let s := s.joinWaiting r
  if s.vbc.bus = .running then
    match s.chooseFree (s.slotMask r) with
    | some v => (s.leaveWaiting r).grant v r
    | none => s
  else s

/-- R103: a voice that became FREE and available while the bus is RUNNING goes to the first entry that allows its
engine. -/
def State.serveVoice (v : Fin 128) (s : State) : State :=
  if s.vbc.bus = .running ∧ s.available v = true ∧ (s.voice v).state = .free then
    match s.val.waiting.find? fun r => (s.slotMask r).getLsbD (engineOf v).val with
    | some r => (s.leaveWaiting r).grant v r
    | none => s
  else s

/-- R95, R96: a slot whose voice was stolen: it waits or is served at once if its layer is LATE, and is EMPTY
otherwise; left without a voice, it sets STARVED. -/
def State.loseToSteal (r : SlotRef) (s : State) : State :=
  match s.slot? r with
  | none => s
  | some x =>
    if x.layer.late then
      let s1 := (s.setStatus r .starved).waitOrServe r
      if (s1.slot? r).any (fun y => y.status == .starved) then s1.setNotice .starved else s1
    else (s.setStatus r .empty).setNotice .starved

/-- R92 to R96: a voice is allocated for a slot just built, or none is. -/
def State.allocate (r : SlotRef) (s : State) : State :=
  match s.slot? r with
  | none => s
  | some x =>
    match s.chooseVoice x.layer.engineMask x.layer.priority with
    | some v =>
      match s.ownerSlot v, (s.voice v).owner with
      | some _, some victim => (s.grant v r).loseToSteal victim
      | _, _ => s.grant v r
    | none =>
      if x.layer.late then ((s.setStatus r .starved).joinWaiting r).setNotice .starved
      else (s.setStatus r .empty).setNotice .starved

/-- R97: a SOUNDING voice is released, with the tail limit of its slot's snapshot. -/
def State.release (v : Fin 128) (tailLimit : Nat) (s : State) : State :=
  let x := s.voice v
  let s1 := (s.setVoice v
    { x with state := .releasing, owner := none, releaseStamp := s.val.stamp, tail := .length tailLimit }).nextStamp
  match x.pending with
  | .start => s1.setPending v .startRelease (s.startContents v)
  | _ => s1.setPending v .release none

/-- R100: a voice is cut. -/
def State.cut (v : Fin 128) (s : State) : State :=
  (s.setVoice v { s.voice v with state := .cutting, owner := none, eligibleFrom := none, tail := .absent }).setPending v
    .cut none

/-- R101, R106, R127: a voice becomes FREE; its pending command, owner and deadlines go, its tag and side stay. -/
def State.freeVoice (v : Fin 128) (s : State) : State :=
  (s.setVoice v { s.voice v with state := .free, owner := none, eligibleFrom := none, tail := .absent }).setPending v
    .none none

/-- R99: the tail of a RELEASING voice overruns its deadline. -/
def State.tailOverrun (v : Fin 128) (s : State) : State :=
  match (s.voice v).state, (s.voice v).tail with
  | .releasing, .moment _ => (s.cut v).setNotice .tailOverrun
  | _, _ => s

/-- R101: a DONE report for a voice, with the tag it carries. -/
def State.doneReport (v : Fin 128) (tag : BitVec 2) (s : State) : State :=
  if (s.voice v).tag = tag then
    match (s.voice v).state with
    | .releasing => (s.freeVoice v).serveVoice v
    | .sounding =>
      match (s.voice v).owner with
      | some r => ((s.freeVoice v).setStatus r .empty).serveVoice v
      | none => (s.freeVoice v).serveVoice v
    | _ => s
  else s

/-- R106: the Voice Allocator handles the loss of an engine. -/
def State.valLoss (e : Fin 4) (s : State) : State :=
  let owners := (voicesOf e).filterMap fun v =>
    if (s.voice v).state = .sounding then (s.voice v).owner else none
  let s1 := (voicesOf e).foldl (fun s v => if (s.voice v).state = .free then s else s.freeVoice v) (s.setJoined e 0)
  owners.foldl (fun s r => (s.setStatus r .waiting).waitOrServe r) s1

/-- R105: the Voice Allocator handles the join of an engine. -/
def State.valJoin (e : Fin 4) (capacity : Nat) (s : State) : State :=
  (voicesOf e).foldl (fun s v => s.serveVoice v) ((s.valLoss e).setJoined e capacity)

end Sys2Proof.Machine
end

