-- ==== Sys2Proof/Machine/Bus.lean ====
section
/-! DEFINITION. The Voice Bus Controller (chapter 8): its states, the frames it builds, the answers it takes, and the
engines it finds and loses; with the meanings of its answers and timers. -/

namespace Sys2Proof.Machine

/-! ## Bus states (8.5) -/

/-- The six bytes of 0xFF of an idle report field. -/
def idleField : BitVec 48 := BitVec.allOnes 48

/-- Entry to HELD or QUIET: the pair rests, the echo buffer is idle, and a window still open closes (R121, R129). -/
def State.restBus (bus : BusState) (s : State) : State :=
  { s with vbc := { s.vbc with bus := bus, echo := idleField, answer := .closed, downstream := [] } }

/-- R134: entry to WAKING. -/
def State.enterWaking (s : State) : State :=
  { s with
    vbc := { s.vbc with
      bus := .waking, wakeTimer := some s.vbc.wakeTime, engines := Vector.replicate 4 Engine.absent } }

/-- R133: the test of a QUIET bus: it wakes when the part is PLAYING and no hold-off runs. -/
def State.wakeTest (s : State) : State :=
  if s.vbc.bus = .quiet ∧ s.act.activity = .playing ∧ s.vbc.holdOff = none then s.enterWaking else s

/-- R136: entry to RUNNING. -/
def State.enterRunning (s : State) : State :=
  let present := s.presentMask
  let s1 : State :=
    { s with
      vbc := { s.vbc with
        bus := .running, wakeTimer := none, wakeAttempts := 0, clearPending := s.vbc.clearPending ||| present
        engines := s.vbc.engines.map fun x => if x.present then { x with absenceRun := 0 } else x } }
  (bitsOf present).foldl (fun s e => s.valJoin e (s.engine e).capacity) s1

/-- R137: entry to CLOSING. -/
def State.enterClosing (destination : Destination) (s : State) : State :=
  let s1 : State := { s with vbc := { s.vbc with bus := .closing, destination := destination, wakeTimer := none } }
  let s2 := (List.finRange 4).foldl (fun s e => s.valLoss e) s1
  { s2 with
    vbc := { s2.vbc with
      engines := Vector.replicate 4 Engine.absent, clearPending := 0, closeTimer := some 32 } }

/-- R137: a close request from Activity Control. -/
def State.closeRequest (s : State) : State :=
  if s.vbc.bus = .running ∨ s.vbc.bus = .waking then s.enterClosing .quiet else s

/-- R132: BUS_OPEN. -/
def State.openBus (s : State) : State :=
  match s.vbc.bus with
  | .held => (s.restBus .quiet).wakeTest
  | .closing => { s with vbc := { s.vbc with destination := .quiet } }
  | _ => s

/-- R137: BUS_CLOSE. -/
def State.closeBus (s : State) : State :=
  match s.vbc.bus with
  | .waking | .running => s.enterClosing .held
  | .closing => { s with vbc := { s.vbc with destination := .held } }
  | .quiet => ({ s with vbc := { s.vbc with holdOff := none } } : State).restBus .held
  | .held => s

/-! ## Engines found and lost (8.4, 8.6) -/

/-- An engine becomes ABSENT, with capacity and absence run 0, and leaves the CLEAR-pending set (R134, R138). -/
def State.engineAbsent (e : Fin 4) (s : State) : State :=
  let s := s.setEngine e Engine.absent
  { s with vbc := { s.vbc with clearPending := clearBit s.vbc.clearPending e.val } }

/-- R138: the loss of an engine in RUNNING. -/
def State.loseEngine (e : Fin 4) (s : State) : State := ((s.engineAbsent e).valLoss e).setNotice .engineLost

/-- R134, R138: one engine's presence bit of an answer, or of a window with no answer. -/
def State.trackEngine (bit : Bool) (e : Fin 4) (s : State) : State :=
  let x := s.engine e
  if x.present then
    if bit then s.setEngine e { x with absenceRun := 0 }
    else
      let s1 := s.setEngine e { x with absenceRun := x.absenceRun + 1 }
      if 8 ≤ x.absenceRun + 1 then
        match s.vbc.bus with
        | .running => s1.loseEngine e
        | .waking => s1.engineAbsent e
        | _ => s1
      else s1
  else s

/-- R129, R134, R138: the presence bits of an answer, or of a window with no answer, by ascending engine. -/
def State.trackPresence (bits : BitVec 4) (s : State) : State :=
  (List.finRange 4).foldl (fun s e => s.trackEngine (bits.getLsbD e.val) e) s

/-- R129: the answer window closes because the next frame is built; with no answer the echo buffer becomes idle and
every presence bit is recorded absent. -/
def State.closeWindow (s : State) : State :=
  match s.vbc.answer with
  | .awaiting =>
    ({ s with vbc := { s.vbc with answer := .closed, echo := idleField } } : State).trackPresence 0
  | _ => { s with vbc := { s.vbc with answer := .closed } }

/-- R134: whether every engine of the expected mask is PRESENT. -/
def State.allExpected (s : State) : Bool := s.vbc.expected &&& ~~~ s.presentMask == 0

/-- R134: a valid JOIN in WAKING. -/
def State.joinWaking (e : Fin 4) (capacity : Nat) (s : State) : State :=
  let s1 :=
    if s.vbc.expected.getLsbD e.val then
      if (s.engine e).present then s.setEngine e { s.engine e with capacity := capacity }
      else (s.setEngine e { present := true, capacity := capacity, absenceRun := 0 }).setNotice .engineJoined
    else s
  if s1.allExpected then s1.enterRunning else s1

/-- R140: a valid JOIN in RUNNING. -/
def State.joinRunning (e : Fin 4) (capacity : Nat) (s : State) : State :=
  if s.vbc.expected.getLsbD e.val then
    let s1 := s.setEngine e { present := true, capacity := capacity, absenceRun := 0 }
    let s2 : State := { s1 with vbc := { s1.vbc with clearPending := s1.vbc.clearPending ||| BitVec.twoPow 4 e.val } }
    (s2.setNotice .engineJoined).valJoin e capacity
  else s

/-- R131: a valid report is routed by its kind and by the bus state. -/
def State.routeReport (r : Report) (s : State) : State :=
  match s.vbc.bus, r with
  | .waking, .join e capacity => s.joinWaking e capacity
  | .waking, .leave e => if (s.engine e).present then s.engineAbsent e else s
  | .running, .join e capacity => s.joinRunning e capacity
  | .running, .done e lcl tag => s.doneReport (voiceOf e lcl) tag
  | .running, .leave e => if (s.engine e).present then s.loseEngine e else s
  | _, _ => s

/-- R129: an upstream frame received whole; only the first in an open window is the answer. -/
def State.takeAnswer (frame : BitVec 56) (s : State) : State :=
  match s.vbc.answer with
  | .awaiting =>
    let s1 : State := { s with vbc := { s.vbc with answer := .answered, echo := reportField frame } }
    let s2 := s1.trackPresence (presenceBits frame)
    match reportOf (reportField frame) with
    | some r => s2.routeReport r
    | none => s2
  | _ => s

/-! ## Frames (8.1 to 8.3) -/

/-- The kinds of downstream frame, with their codes (Table 12-2). -/
inductive FrameKind where
  | normal | wake | close
  deriving DecidableEq, Repr

def FrameKind.code : FrameKind → Byte
  | .normal => 0x01
  | .wake => 0x02
  | .close => 0x03

/-- A command placed in a frame (Table 8-1); the units no command fills are NOOP. -/
inductive BusCommand where
  | start (v : Fin 128) (tag : BitVec 2) (timbre pitch level : Nat)
  | release (v : Fin 128)
  | cut (v : Fin 128)
  | level (v : Fin 128) (level : Nat)
  | accent (v : Fin 128) (level : Nat)
  | clear (e : Fin 4)
  deriving DecidableEq, Repr

/-- The units a command occupies (Table 8-1). -/
def BusCommand.units : BusCommand → Nat
  | .start .. => 3
  | _ => 1

/-- The bytes of a command, four for each unit (Table 12-3). -/
def BusCommand.bytes : BusCommand → List Byte
  | .start v tag timbre pitch x =>
    [0x10, natByte v.val, tag.setWidth 8, natByte pitch, natByte x] ++ bytesOfNat 2 timbre ++ [0, 0, 0, 0, 0]
  | .release v => [0x20, natByte v.val, 0, 0]
  | .cut v => [0x30, natByte v.val, 0, 0]
  | .level v x => [0x40, natByte v.val, natByte x, 0]
  | .accent v x => [0x50, natByte v.val, natByte x, 0]
  | .clear e => [0x60, natByte e.val, 0, 0]

/-- The command area: the commands in the order of their placement, then NOOP units up to eight (R122). -/
def commandArea (placed : List BusCommand) : List Byte :=
  placed.flatMap BusCommand.bytes ++ List.replicate (32 - (placed.flatMap BusCommand.bytes).length) 0

/-- A downstream frame of 41 bytes: kind, echo field, command area and check (R121, R175, R176). -/
def frameBytes (kind : FrameKind) (echo : BitVec 48) (placed : List BusCommand) : List Byte :=
  let body := kind.code :: (bytesOfNat 6 echo.toNat ++ commandArea placed)
  body ++ bytesOfNat 2 (body.map BitVec.toNat).sum

/-- A frame goes out on the pair and opens its answer window (R121, R129). -/
def State.sendFrame (kind : FrameKind) (placed : List BusCommand) (s : State) : State :=
  { s with vbc := { s.vbc with downstream := frameBytes kind s.vbc.echo placed, answer := .awaiting } }

/-- R127: a voice's level is carried by a command. -/
def State.levelSent (v : Fin 128) (s : State) : State :=
  s.setVoice v { s.voice v with lastSent := (s.voice v).target, dirty := false }

/-- R98, R127: a voice's START is placed; eligible-from is the moment of placement plus the minimum sounding time. -/
def State.startSent (v : Fin 128) (s : State) : State :=
  let s1 := s.levelSent v
  s1.setVoice v { s1.voice v with eligibleFrom := some (s.momentAfter s.val.minSounding) }

/-- R99, R127: a voice's RELEASE is placed; the tail's length becomes a moment. -/
def State.releaseSent (v : Fin 128) (s : State) : State :=
  let x := s.voice v
  let tail := match x.tail with
    | .length ms => .moment (s.momentAfter ms)
    | t => t
  (s.setVoice v { x with tail := tail, eligibleFrom := none }).setPending v .none none

/-- The command a voice's pending command places, from the entry as it stands (R123, R125). -/
def State.commandFor (v : Fin 128) (s : State) : Option BusCommand :=
  let x := s.voice v
  let contents := (s.startContents v).getD { timbre := 0, pitch := 0 }
  match x.pending with
  | .none => none
  | .start | .startRelease => some (.start v x.tag contents.timbre contents.pitch x.target)
  | .release => some (.release v)
  | .cut => some (.cut v)
  | .accent => some (.accent v x.target)

/-- R127: the effects of placing a voice's pending command. -/
def State.placed (v : Fin 128) (s : State) : State :=
  match (s.voice v).pending with
  | .none => s
  | .start => (s.startSent v).setPending v .none none
  | .startRelease => (s.startSent v).setPending v .release none
  | .release => s.releaseSent v
  | .cut => (s.freeVoice v).serveVoice v
  | .accent => (s.levelSent v).setPending v .none none

/-- R125 case 1: a pending RELEASE whose eligible-from is later than the moment of the frame. -/
def State.notEligible (v : Fin 128) (s : State) : Bool :=
  (s.voice v).pending == .release && (s.voice v).eligibleFrom.any (s.frameTicks < ·)

/-- R124, step 1: one CLEAR for each PRESENT engine of the CLEAR-pending set, ascending. -/
def State.placeClears (s : State) : State × List BusCommand :=
  let clears := bitsOf (s.vbc.clearPending &&& s.presentMask)
  ({ s with vbc := { s.vbc with clearPending := s.vbc.clearPending &&& ~~~ s.presentMask } }, clears.map .clear)

/-- R125, step 2: the visit of the Send List's entries, each once, with the units left; it answers the state, the
commands placed and the units still left. -/
def State.placeSends : List (Fin 128) → Nat → State → State × List BusCommand × Nat
  | [], left, s => (s, [], left)
  | v :: rest, left, s =>
    if (s.engine (engineOf v)).present = false ∨ s.notEligible v = true then s.placeSends rest left
    else
      match s.commandFor v with
      | none => s.placeSends rest left
      | some c =>
        if left < c.units then (s, [], left)
        else
          let out := (s.placed v).placeSends rest (left - c.units)
          (out.1, c :: out.2.1, out.2.2)

/-- R126: whether a voice qualifies for a LEVEL. -/
def State.levelDue (s : State) (v : Fin 128) : Bool :=
  (s.voice v).state == .sounding && (s.voice v).dirty && (s.voice v).pending != .start

/-- R126, step 3: LEVEL commands for the voices of a list while units remain; the rotation pointer follows the last. -/
def State.placeLevels : List (Fin 128) → Nat → State → State × List BusCommand
  | [], _, s => (s, [])
  | v :: rest, left, s =>
    if left = 0 then (s, [])
    else if s.levelDue v then
      let s1 := s.levelSent v
      let out :=
        ({ s1 with vbc := { s1.vbc with rotation := v + 1 } } : State).placeLevels rest (left - 1)
      (out.1, .level v (s.voice v).target :: out.2)
    else s.placeLevels rest left

/-- The voice ids from the level rotation pointer up and round (R126). -/
def State.rotationOrder (s : State) : List (Fin 128) :=
  (List.range 128).map fun i => ⟨(s.vbc.rotation.val + i) % 128, Nat.mod_lt _ (by decide)⟩

/-- R124 to R127: a NORMAL frame's command area is filled. -/
def State.buildNormal (s : State) : State × List BusCommand :=
  let clears := s.placeClears
  let sends := clears.1.placeSends (clears.1.vbc.sendList.map (·.voice)) (8 - clears.2.length)
  let levels := sends.1.placeLevels sends.1.rotationOrder sends.2.2
  (levels.1, clears.2 ++ sends.2.1 ++ levels.2)

/-! ## Meanings -/

/-- A NORMAL frame is built at this tick (R121, R124 to R129), in RUNNING only. -/
def State.normalFrame (s : State) : State :=
  if s.vbc.bus = .running then
    let built := s.closeWindow.buildNormal
    built.1.sendFrame .normal built.2
  else s

/-- A WAKE frame is built at this tick (R121), in WAKING only. -/
def State.wakeFrame (s : State) : State :=
  if s.vbc.bus = .waking then s.closeWindow.sendFrame .wake [] else s

/-- A CLOSE frame is built at this tick (R121), in CLOSING only. -/
def State.closeFrame (s : State) : State :=
  if s.vbc.bus = .closing then s.closeWindow.sendFrame .close [] else s

/-- WAKE_TIMER_EXPIRY (R135): it expires in WAKING only. -/
def State.wakeExpiry (s : State) : State :=
  if s.vbc.bus = .waking then
    if s.presentMask = 0 then
      let s1 := (s.restBus .quiet).setNotice .busNoEngine
      { s1 with
        vbc := { s1.vbc with
          wakeTimer := none, wakeAttempts := min 255 (s1.vbc.wakeAttempts + 1), holdOff := some 32 } }
    else s.enterRunning
  else s

/-- HOLD_OFF_EXPIRY (R133): it expires only where the hold-off timer runs. -/
def State.holdOffExpiry (s : State) : State :=
  if s.vbc.holdOff.isSome then ({ s with vbc := { s.vbc with holdOff := none } } : State).wakeTest else s

/-- CLOSE_TIMER_EXPIRY (R137): it expires in CLOSING only. -/
def State.closeExpiry (s : State) : State :=
  if s.vbc.bus = .closing then
    let s1 : State := { s with vbc := { s.vbc with closeTimer := none } }
    match s.vbc.destination with
    | .quiet => (s1.restBus .quiet).wakeTest
    | .held => s1.restBus .held
  else s

/-- UPSTREAM_ANSWER (R129 to R131). -/
def execUpstreamAnswer (frame : BitVec 56) (s : State) : Host.Outcome State Fault Refusal :=
  s.live (State.takeAnswer frame)

def execWakeTimerExpiry (s : State) : Host.Outcome State Fault Refusal := s.live State.wakeExpiry

def execHoldOffExpiry (s : State) : Host.Outcome State Fault Refusal := s.event State.holdOffExpiry

def execCloseTimerExpiry (s : State) : Host.Outcome State Fault Refusal := s.live State.closeExpiry

/-- TAIL_EXPIRY (R99): only a RELEASING voice whose tail runs toward a moment overruns. -/
def execTailExpiry (voice : Fin 128) (s : State) : Host.Outcome State Fault Refusal := s.live (State.tailOverrun voice)

end Sys2Proof.Machine
end

