-- ==== Sys2Proof/Machine/Activity.lean ====
section
/-! DEFINITION. Activity Control (chapter 10): waking, resting and starting, with HUSH_EXPIRY's meaning. -/

namespace Sys2Proof.Machine

/-- R159: the part wakes from RESTING. -/
def State.wakeUp (s : State) : State :=
  let s1 : State := { s with act := { s.act with activity := .playing } }
  let s2 := s1.wakeTest.setNotice .woke
  { s2 with act := { s2.act with hush := 0 } }

/-- R159: a wake cause reported to Activity Control wakes a resting part. In PLAYING one that is taken at the instant of
the hush expiry comes before it, so that the count is 0 and no expiry occurs (R158). Any other changes nothing. Which
instant that is, is the model's choice (notes/assumptions/28.md). -/
def State.reportWake (s : State) : State :=
  if s.act.activity = .resting then s.wakeUp
  else if s.hushAtHand then { s with act := { s.act with hush := 0 } }
  else s

/-- R156: the controller's START in SETUP: PLAYING, latent marks, hush timer, wake request. -/
def State.startPlaying (s : State) : State :=
  ({ s with
    act := { s.act with activity := .playing, hush := 0 }
    ksu := { s.ksu with latentButtons := s.ksu.latentButtons ||| s.ksu.buttons.state
                        latentChins := s.ksu.latentChins ||| s.ksu.chins.state }
    blr := { s.blr with latent := s.blr.latent ||| s.blr.image } } : State).wakeTest

/-- R158: the part enters RESTING. -/
def State.enterResting (s : State) : State :=
  (({ s with act := { s.act with activity := .resting, hush := 0 } } : State).closeRequest).setNotice .resting

/-- HUSH_EXPIRY (R158): the hush timer expires where its expiry is due. Its count is tested, so it comes after the
beginning of the tick that makes it due, and where the frame of that tick began it, in RUNNING and WAKING, after that
frame. That a frame and the hush expiry of one tick, which R128 and R137 let come in either order, come in this one is
the model's choice (notes/assumptions/3.md). -/
def State.hushExpiry (s : State) : State := if s.hushDue then s.enterResting else s

def execHushExpiry (s : State) : Host.Outcome State Fault Refusal := s.live State.hushExpiry

end Sys2Proof.Machine
end

