-- ==== Sys2Proof/Machine/Sounding.lean ====
section
/-! DEFINITION. The Sounding Table and the Hold Table (chapters 4 and 5): slots, creation and retirement of records,
holders, presses and releases of buttons, sustain and silence. -/

namespace Sys2Proof.Machine

/-- The Hold Table's limit (R55). -/
def holdLimit : Nat := 64

/-- The Sounding Table's limit (R66). -/
def recordLimit : Nat := 96

/-- A record's limit of holders (R67). -/
def holderLimit : Nat := 8

/-! ## Slots and records -/

/-- R75: slot `j` of a record is built from a layer and given its status. -/
def State.buildSlot (k : Key) (j : Nat) (layer : Layer) (s : State) : State :=
  let r : SlotRef := { key := k, slot := j }
  let pitch := soundingPitch k.pitch layer.transpose
  let put := fun st => s.putSlot r { layer := layer, soundingPitch := pitch, status := st, override := none, mute := false }
  if pitch = none then put .skipped
  else if s.vbc.bus ≠ .running ∨ layer.engineMask &&& s.presentMask = 0 then (put .waiting).joinWaiting r
  else (put .empty).allocate r

/-- The layers `j`, `j + 1`, … of a list are built as slots of a record, in ascending index (R74). -/
def State.buildSlots (k : Key) : Nat → List Layer → State → State
  | _, [], s => s
  | j, layer :: layers, s => (s.buildSlot k j layer).buildSlots k (j + 1) layers

/-- R74: a record is created with one holder, and its slots are built. -/
def State.createRecord (k : Key) (b : Button) (s : State) : State :=
  let x : Record := { key := k, holders := [b], stamp := s.sdt.serial, generation := s.rsa.generation, slots := [] }
  let s1 : State :=
    { s with sdt := { records := insertBy (fun y => y.key.place) x s.sdt.records, serial := s.sdt.serial + 1 } }
  s1.buildSlots k 0 (s.current k.side).layers

/-- The voices of a record's VOICED slots, by ascending slot index. -/
def Record.voices (x : Record) : List (Fin 128) :=
  x.slots.filterMap fun y => match y.status with
    | .voiced v => some v
    | _ => none

/-- R72, R73: a holder for a SUSTAINED record, which becomes HELD; its voices are accented. -/
def State.revive (x : Record) (b : Button) (s : State) : State :=
  x.voices.foldl (fun s v => s.accent v) (s.changeRecord x.key fun y => { y with holders := [b] })

/-- R72, R74: the Sounding Table is offered a holder; it answers whether the offer is taken. -/
def State.addHolder (k : Key) (b : Button) (s : State) : State × Bool :=
  match s.record? k with
  | some x =>
    if b ∈ x.holders then (s, true)
    else if holderLimit ≤ x.holders.length then (s.setNotice .holderFull, false)
    else if x.holders = [] then (s.revive x b, true)
    else (s.changeRecord k fun y => { y with holders := y.holders ++ [b] }, true)
  | none =>
    if recordLimit ≤ s.sdt.records.length then (s.setNotice .recordFull, false) else (s.createRecord k b, true)

/-- R77, R152: a slot's voice is released, with the slot's tail limit, or its waiting entry removed. -/
def State.disposeSlot (r : SlotRef) (s : State) : State :=
  match s.slot? r with
  | none => s
  | some x =>
    match x.status with
    | .voiced v => (s.setStatus r .empty).release v x.layer.tailLimit
    | .waiting | .starved => (s.setStatus r .empty).leaveWaiting r
    | .empty | .skipped => s

/-- R78: a slot's voice is cut, or its waiting entry removed. -/
def State.cutSlot (r : SlotRef) (s : State) : State :=
  match s.slot? r with
  | none => s
  | some x =>
    match x.status with
    | .voiced v => (s.setStatus r .empty).cut v
    | .waiting | .starved => (s.setStatus r .empty).leaveWaiting r
    | .empty | .skipped => s

/-- The slots of a record from index `j` on, as named from outside. -/
def slotRefs (x : Record) (j : Nat) : List SlotRef :=
  ((List.range x.slots.length).drop j).map fun i => { key := x.key, slot := i }

/-- R77: a normal retirement. -/
def State.retire (k : Key) (s : State) : State :=
  match s.record? k with
  | none => s
  | some x => ((slotRefs x 0).foldl (fun s r => s.disposeSlot r) s).dropRecord k

/-- R59: a cut-retired record's pitch leaves every hold of its side. -/
def State.removePitch (k : Key) (s : State) : State :=
  s.setHolds (s.htm.holds.map fun h =>
    if h.button.side = k.side then { h with pitches := h.pitches.filter (· ≠ k.pitch) } else h)

/-- R78: a cut retirement. -/
def State.cutRetire (k : Key) (s : State) : State :=
  match s.record? k with
  | none => s
  | some x => (((slotRefs x 0).foldl (fun s r => s.cutSlot r) s).removePitch k).dropRecord k

/-- R76: a holder is removed from a record, which stays HELD, becomes SUSTAINED or retires. -/
def State.removeHolder (k : Key) (b : Button) (s : State) : State :=
  match s.record? k with
  | none => s
  | some x =>
    if b ∈ x.holders then
      let s1 := s.changeRecord k fun y => { y with holders := y.holders.filter (· ≠ b) }
      if x.holders.filter (· ≠ b) = [] ∧ s.sustain k.side = false then s1.retire k else s1
    else s

/-- R86: a side or both are silenced: their records are cut-retired in enumeration order, then their RELEASING voices
are cut by ascending id. -/
def State.silenceSides (sides : Sides) (s : State) : State :=
  let keys := (s.sdt.records.map (·.key)).filter fun k => sides.has k.side
  let s1 := keys.foldl (fun s k => s.cutRetire k) s
  (List.finRange 128).foldl
    (fun s v => if (s.voice v).state = .releasing ∧ sides.has (s.voice v).side = true then s.cut v else s) s1

/-! ## Sustain (4.9) -/

def State.writeSustain (side : Side) (on : Bool) (s : State) : State :=
  match side with
  | .treble => { s with htm := { s.htm with trebleSustain := on } }
  | .bass => { s with htm := { s.htm with bassSustain := on } }

/-- The keys of a side's SUSTAINED records, oldest first. -/
def State.sustainedKeys (side : Side) (s : State) : List Key :=
  (sortBy (fun x => x.stamp.toNat)
    (s.sdt.records.filter fun x => x.key.side == side && x.holders.isEmpty)).map (·.key)

/-- R61: sustain is asked for ON or OFF on a side; a change to OFF retires the side's SUSTAINED records. -/
def State.setSustain (side : Side) (on : Bool) (s : State) : State :=
  if s.sustain side = on then s
  else
    let s1 := s.writeSustain side on
    if on then s1 else (s.sustainedKeys side).foldl (fun s k => s.retire k) s1

/-- The sides named, treble first (R61). -/
def Sides.list : Sides → List Side
  | .treble => [.treble]
  | .bass => [.bass]
  | .both => [.treble, .bass]

/-! ## Presses and releases (4.6, 4.7) -/

/-- R51 to R53: the played pitches of a button as the maps, bases and octave shift stand; `none` for an UNUSED entry. -/
def State.playedPitches (s : State) : Button → Option (List Nat)
  | .treble i => treblePitches s.htm.map[i] s.htm.trebleBase s.ksu.octave
  | .bass k => some (bassPitches s.htm.bassBase s.htm.chordBase k)

/-- R56 step 5: a pitch is offered; a taken one is appended to the button's hold. -/
def State.offer (b : Button) (pitch : Nat) (s : State) : State :=
  let out := s.addHolder { side := b.side, pitch := pitch } b
  if out.2 then
    out.1.setHolds (out.1.htm.holds.map fun h => if h.button = b then { h with pitches := h.pitches ++ [pitch] } else h)
  else out.1

/-- R56: a press. -/
def State.press (b : Button) (s : State) : State :=
  match s.playedPitches b with
  | none => s
  | some pitches =>
    if (s.hold? b).isSome then s
    else if holdLimit ≤ s.htm.holds.length then s.setNotice .holdFull
    else
      let s1 := s.setHolds (s.htm.holds ++ [{ button := b, pitches := [], pressTime := s.msTicks }])
      pitches.foldl (fun s p => s.offer b p) s1

/-- R58: a release. -/
def State.releaseButton (b : Button) (s : State) : State :=
  match s.hold? b with
  | none => s
  | some h =>
    let s1 := h.pitches.foldl (fun s p => s.removeHolder { side := b.side, pitch := p } b) s
    s1.setHolds (s1.htm.holds.filter fun x => x.button ≠ b)

end Sys2Proof.Machine
end

