-- ==== Sys2Proof/Machine/Registrations.lean ====
section
/-! DEFINITION. Registration Store and Apply (chapter 9): applies, the apply pass, re-layering and tab lookups. -/

namespace Sys2Proof.Machine

/-- The most records a pass visits at one frame tick (R148). -/
def visitLimit : Nat := 8

/-- A side of a registration entry: the layers of its half and whether it carries (R147). -/
def Registration.layers (x : Registration) : Side → List Layer
  | .treble => x.treble.layers
  | .bass => x.bass.layers

def Registration.mode (x : Registration) : Side → SwitchMode
  | .treble => x.treble.mode
  | .bass => x.bass.mode

/-- R147 step 1: a named half is copied into the side's current copy. -/
def State.copyHalf (entry : Fin 32) (sides : Sides) (side : Side) (s : State) : State :=
  if sides.has side then
    let copy : CurrentCopy := { layers := s.rsa.table[entry].layers side, entry := entry.val }
    match side with
    | .treble => { s with rsa := { s.rsa with treble := copy } }
    | .bass => { s with rsa := { s.rsa with bass := copy } }
  else s

/-- Whether a side holds a record whose generation differs from the one given. -/
def State.hasStale (s : State) (generation : BitVec 16) (side : Side) : Bool :=
  s.sdt.records.any fun x => x.key.side == side && x.generation != generation

/-- R147 step 3, R149: the pass sides after an apply: its carry sides, and those an earlier pass has yet to visit. -/
def State.passSides (s : State) (entry : Fin 32) (sides : Sides) (side : Side) : Bool :=
  (sides.has side && s.rsa.table[entry].mode side == .carry) ||
    s.rsa.pass.any fun p => p.sides.has side && s.hasStale s.rsa.generation side

/-- R147, R149: an apply of an entry's halves. A pass that stands after it fails a quiet condition at once, whatever a
later apply of the same event makes of it (R157). -/
def State.applyEntry (entry : Fin 32) (sides : Sides) (s : State) : State :=
  let s1 := (s.copyHalf entry sides .treble).copyHalf entry sides .bass
  let generation := s.rsa.generation + 1
  match Sides.ofFlags (s.passSides entry sides .treble) (s.passSides entry sides .bass) with
  | none => ({ s1 with rsa := { s1.rsa with generation := generation, pass := none } } : State).setNotice .applyDone
  | some p =>
    ({ s1 with
      rsa := { s1.rsa with
        generation := generation, pass := some { sides := p, owner := generation } } } : State).watchQuiet

/-- R151: the voice that old slot `x` keeps under a new layer, if it keeps one. -/
def keptVoice (x : Slot) (layer : Layer) (pitch : Option Nat) : Option (Fin 128) :=
  match x.status with
  | .voiced v =>
    if layer.engineMask.getLsbD (engineOf v).val ∧ layer.timbre = x.layer.timbre ∧ pitch.isSome ∧ pitch = x.soundingPitch
    then some v else none
  | _ => none

/-- R151, R152: slot `j` of a record is re-layered. -/
def State.relayerSlot (k : Key) (j : Nat) (layer : Layer) (s : State) : State :=
  let r : SlotRef := { key := k, slot := j }
  match (s.slot? r).bind fun x => keptVoice x layer (soundingPitch k.pitch layer.transpose) with
  | some v => (s.changeSlot r fun x => { x with layer := layer }).updateLevel v
  | none => (s.disposeSlot r).buildSlot k j layer

/-- The layers `j`, `j + 1`, … of the current copy are taken in turn (R151). -/
def State.relayerSlots (k : Key) : Nat → List Layer → State → State
  | _, [], s => s
  | j, layer :: layers, s => (s.relayerSlot k j layer).relayerSlots k (j + 1) layers

/-- R82, R151, R152: a record is re-layered. -/
def State.relayer (k : Key) (s : State) : State :=
  let layers := (s.current k.side).layers
  let s1 := s.relayerSlots k 0 layers
  let beyond := ((s1.record? k).map fun x => slotRefs x layers.length).getD []
  let s2 := beyond.foldl (fun s r => s.disposeSlot r) s1
  s2.changeRecord k fun x => { x with slots := x.slots.take layers.length, generation := s2.rsa.generation }

/-- R148: the keys of the records a pass visits at one frame tick, oldest first. -/
def State.passKeys (p : Pass) (s : State) : List Key :=
  ((sortBy (fun x => x.stamp.toNat)
    (s.sdt.records.filter fun x => p.sides.has x.key.side && x.generation != s.rsa.generation)).take visitLimit).map
      (·.key)

/-- R148: a pass with no record left to visit completes. -/
def State.completePass (p : Pass) (s : State) : State :=
  if s.passKeys p = [] then ({ s with rsa := { s.rsa with pass := none } } : State).setNotice .applyDone else s

/-- R148: the visits of one frame tick and the completion test. -/
def State.passTick (s : State) : State :=
  match s.rsa.pass with
  | none => s
  | some p => ((s.passKeys p).foldl (fun s k => s.relayer k) s).completePass p

/-- R153: whether a half for a side of `n` tabs has the pattern. -/
def Half.matches {n : Nat} (h : Half n) (p : BitVec n) : Bool := h.pattern == some p

/-- R153: an entry found by a lookup is applied for its side; no entry found sets TAB_NOMATCH. -/
def State.lookupResult (side : Side) (found : Option (Fin 32)) (s : State) : State :=
  match found with
  | some entry => s.applyEntry entry (sidesOne side)
  | none => s.setNotice .tabNomatch

/-- R153: a treble tab lookup. -/
def State.trebleLookup (p : BitVec 12) (s : State) : State :=
  s.lookupResult .treble ((List.finRange 32).find? fun n => s.rsa.table[n].treble.matches p)

/-- R153: a bass tab lookup. -/
def State.bassLookup (p : BitVec 5) (s : State) : State :=
  s.lookupResult .bass ((List.finRange 32).find? fun n => s.rsa.table[n].bass.matches p)

end Sys2Proof.Machine
end

