-- ==== Sys2Proof/Machine/Bellows.lean ====
section
/-! DEFINITION. The Bellows Unit (chapter 3): the four stages of a good sample, sensor faults, link loss and
calibration. -/

namespace Sys2Proof.Machine

/-! ## The stages' arithmetic -/

/-- R35: the offset sample. -/
def offsetSample (p o : Int) : Int := clampInt (-2047) 2047 (p - o)

/-- R40: the bellows level of a magnitude. -/
def bellowsLevel (m deadBand : Nat) : Nat :=
  if m ≤ deadBand then 0 else min 1023 ((m - deadBand) * 1023 / (2047 - deadBand))

/-- R41: the step toward the target: the difference divided by 2^k truncated toward zero, at least one unit. -/
def smoothingStep (diff : Int) (k : Nat) : Int :=
  let step := Int.tdiv diff (2 ^ k)
  if step = 0 then (if 0 < diff then 1 else if diff < 0 then -1 else 0) else step

/-- R41: S after an update toward a target. -/
def smoothed (s target k : Nat) : Nat :=
  if k = 0 then target else ((s : Int) + smoothingStep ((target : Int) - s) k).toNat

/-- The direction of a sample above the band, by the sign of the offset sample (R36). -/
def senseOf (p : Int) : Direction := if 0 < p then .push else .pull

/-- Whether a departure from REST toward `d` is opposite to the departed direction (R38). -/
def opposes : Departed → Direction → Bool
  | .push, .pull | .pull, .push => true
  | _, _ => false

/-- The departed direction left by entering REST from a state (R37). -/
def departedFrom : Direction → Departed
  | .push => .push
  | .pull => .pull
  | .rest => .none

/-- R46: the new offset of a successful calibration; the division by 16 rounds toward minus infinity. -/
def calibratedOffset (sum : Int) : Int := clampInt (-256) 255 ((sum + 8) / 16)

/-! ## The stages -/

/-- R39: a reversal is counted and signalled. -/
def State.reversal (s : State) : State :=
  ({ s with bwu := { s.bwu with reversals := s.bwu.reversals + 1 } } : State).reversalAccents

/-- R36, R38: a good sample above the band. -/
def State.sampleAbove (d : Direction) (s : State) : State :=
  let s1 : State := { s with bwu := { s.bwu with restRun := 0, direction := d } }
  if s.bwu.direction = .rest then
    let s2 := s1.reportWake
    if opposes s.bwu.departed d ∧ s.bwu.restAge < s.bwu.window then s2.reversal else s2
  else if s.bwu.direction = d then s1
  else s1.reversal

/-- R37: a good sample inside the band. -/
def State.sampleInside (s : State) : State :=
  let run := min 255 (s.bwu.restRun + 1)
  if s.bwu.direction = .rest then
    { s with bwu := { s.bwu with restRun := run, restAge := min 255 (s.bwu.restAge + 1) } }
  else if s.bwu.restCount ≤ run then
    { s with
      bwu := { s.bwu with restRun := run, restAge := 0, direction := .rest, departed := departedFrom s.bwu.direction } }
  else { s with bwu := { s.bwu with restRun := run } }

/-- R46: a good raw sample is taken into a running collection. -/
def Calibration.take (p : Int) : Calibration → Calibration
  | .idle => .idle
  | .collecting n sum none => .collecting (n + 1) (sum + p) (some (p, p))
  | .collecting n sum (some b) => .collecting (n + 1) (sum + p) (some (min b.1 p, max b.2 p))

/-- R46: a collection that holds 16 samples completes. -/
def State.completeCalibration (s : State) : State :=
  match s.bwu.calibration with
  | .collecting n sum (some b) =>
    if 16 ≤ n then
      let s1 : State := { s with bwu := { s.bwu with calibration := .idle } }
      if 2 * (s.bwu.deadBand : Int) < b.2 - b.1 then s1.setNotice .calFailed
      else ({ s1 with bwu := { s1.bwu with offset := calibratedOffset sum } } : State).setNotice .calDone
    else s
  | _ => s

/-- R47: a running collection ends in failure. -/
def State.failCalibration (s : State) : State :=
  match s.bwu.calibration with
  | .idle => s
  | .collecting .. => ({ s with bwu := { s.bwu with calibration := .idle } } : State).setNotice .calFailed

/-- R34: a good sample, in the order of the seven steps. -/
def State.goodSample (p : Int) (s : State) : State :=
  let s2 : State :=
    { s with
      bwu := { s.bwu with faultRun := 0, faultDeclared := false, calibration := s.bwu.calibration.take p } }
  let p' := offsetSample p s.bwu.offset
  let m := p'.natAbs
  let s4 := if s.bwu.deadBand < m then s2.sampleAbove (senseOf p') else s2.sampleInside
  let target := bellowsLevel m s.bwu.deadBand * 16
  let s6 : State := { s4 with bwu := { s4.bwu with smoothed := smoothed s4.bwu.smoothed target s.bwu.shift } }
  s6.updateLevels.completeCalibration

/-- R43, R44: the bellows is at rest with S = 0, a collection fails, and the Expression Unit is signalled. -/
def State.bellowsToRest (faultRun : Nat) (declared : Bool) (s : State) : State :=
  (({ s with
    bwu := { s.bwu with
      direction := .rest, departed := .none, restRun := 0, restAge := 0, smoothed := 0, faultRun := faultRun
      faultDeclared := declared } } : State).failCalibration).updateLevels

/-- R44: the response to LINK_LOST. -/
def State.bellowsLinkLost (s : State) : State := s.bellowsToRest 0 false

/-- R42, R43: a sample with its fault bit set. -/
def State.faultySample (s : State) : State :=
  let run := min 255 (s.bwu.faultRun + 1)
  if s.blr.lossTime ≤ run ∧ s.bwu.faultDeclared = false then (s.bellowsToRest run true).setNotice .sensorFault
  else { s with bwu := { s.bwu with faultRun := run } }

/-- R34: a sample arrives. -/
def State.sample (p : Int) (fault : Bool) (s : State) : State := if fault then s.faultySample else s.goodSample p

end Sys2Proof.Machine
end

