-- ==== Sys2Proof/Machine/Keys.lean ====
section
/-! DEFINITION. The Key Scan Unit (chapter 1): debounce, acceptances and their order, tab groups and chin switches;
with the meanings of SCAN_COMPLETION and SETTLE_EXPIRY. -/

namespace Sys2Proof.Machine

/-! ## Debounce -/

/-- R3: the inputs whose change is accepted at this scan. -/
def Contacts.accepted {n : Nat} (count : Nat) (c : Contacts n) (samples : BitVec n) : BitVec n :=
  BitVec.ofFnLE fun i => c.state.getLsbD i.val != samples.getLsbD i.val && count ≤ c.counts[i] + 1

/-- R3: debounced states and disagree counters after a scan. -/
def Contacts.debounced {n : Nat} (count : Nat) (c : Contacts n) (samples : BitVec n) : Contacts n :=
  { state := c.state ^^^ c.accepted count samples
    counts := Vector.ofFn fun i =>
      if c.state.getLsbD i.val = samples.getLsbD i.val ∨ count ≤ c.counts[i] + 1 then 0 else c.counts[i] + 1 }

/-! ## Tab groups -/

/-- R8: two patterns equal under the mask. -/
def TabGroup.equal {n : Nat} (g : TabGroup n) (a b : BitVec n) : Bool := (a ^^^ b) &&& g.mask == 0

/-- R9, R10: a tab group evaluates a change of its input pattern; it answers the group and whether the change is a
departure. -/
def TabGroup.change {n : Nat} (settleTime : Nat) (before after : BitVec n) (g : TabGroup n) : TabGroup n × Bool :=
  match g.state with
  | .armed =>
    if g.equal before g.reference ∧ ¬ g.equal after g.reference then ({ g with state := .settling settleTime }, true)
    else (g, false)
  | .settling _ => (if g.equal before after then g else { g with state := .settling settleTime }, false)

/-- R11: the settle timer expires: the group, ARMED, and the settled pattern if it must be looked up. -/
def TabGroup.settled {n : Nat} (input : BitVec n) (g : TabGroup n) : TabGroup n × Option (BitVec n) :=
  let p := input &&& g.mask
  if g.equal p g.reference then ({ g with state := .armed }, none)
  else ({ g with state := .armed, reference := p }, some p)

/-- R12: a write of a group's mask and reference. -/
def TabGroup.write {n : Nat} (mask reference : BitVec n) (g : TabGroup n) : TabGroup n :=
  if g.mask = mask ∧ g.reference = reference then g else { mask := mask, reference := reference, state := .armed }

/-- A change handed to the treble group; a departure is a wake cause (R9). -/
def State.trebleTabChange (before after : BitVec 12) (s : State) : State :=
  let out := s.ksu.group.change s.ksu.settleTime before after
  let s1 := if out.2 then s.reportWake else s
  { s1 with ksu := { s1.ksu with group := out.1 } }

/-- A change handed to the bass group; a departure is a wake cause (R9). -/
def State.bassTabChange (before after : BitVec 5) (s : State) : State :=
  let out := s.blr.group.change s.ksu.settleTime before after
  let s1 := if out.2 then s.reportWake else s
  { s1 with blr := { s1.blr with group := out.1 } }

/-! ## Chin switches -/

/-- R14: whether an edge matches an edge select. -/
def EdgeSelect.takes : EdgeSelect → Bool → Bool
  | .both, _ | .press, true | .release, false => true
  | _, _ => false

/-- R16: the octave shift moves by one and saturates. -/
def State.shiftOctave (d : Int) (s : State) : State :=
  { s with ksu := { s.ksu with octave := clampInt (-2) 2 (s.ksu.octave + d) } }

/-- The registration number of a switch as an entry of the table (R17, R18). -/
def entryOf (n : Nat) : Fin 32 := ⟨min 31 n, by omega⟩

/-- R15 to R17: the action of a switch at an edge, a press where `pressed`, that matches or not. -/
def State.chinAction (c : ChinSwitch) (pressed isMatch : Bool) (s : State) : State :=
  match c.action with
  | .sustainHold => c.side.list.foldl (fun s side => s.setSustain side pressed) s
  | .none | .notice => s
  | .sustainToggle =>
    if isMatch then c.side.list.foldl (fun s side => s.setSustain side (!s.sustain side)) s else s
  | .octaveUp => if isMatch then s.shiftOctave 1 else s
  | .octaveDown => if isMatch then s.shiftOctave (-1) else s
  | .recall => if isMatch then s.applyEntry (entryOf c.registration) c.halves else s
  | .silence => if isMatch then s.silenceSides c.side else s

/-- R14: the wake of an edge: the action is not NONE, and the edge matches or is of a SUSTAIN_HOLD switch. -/
def ChinSwitch.wakes (c : ChinSwitch) (isMatch : Bool) : Bool :=
  c.action != .none && (isMatch || c.action == .sustainHold)

/-- R7, R14: an accepted edge of a chin switch. -/
def State.chinEdge (n : Fin 4) (pressed : Bool) (s : State) : State :=
  if s.ksu.latentChins.getLsbD n.val then
    if pressed then s else { s with ksu := { s.ksu with latentChins := clearBit s.ksu.latentChins n.val } }
  else
    let c := s.ksu.switches[n]
    let isMatch := c.edge.takes pressed
    let s1 := if c.wakes isMatch then s.reportWake else s
    let s2 := if isMatch then s1.setNotice (.chin n) else s1
    s2.chinAction c pressed isMatch

/-! ## Buttons -/

/-- R6, R7: an accepted treble release. -/
def State.trebleRelease (i : Fin 96) (s : State) : State :=
  if s.ksu.latentButtons.getLsbD i.val then
    { s with ksu := { s.ksu with latentButtons := clearBit s.ksu.latentButtons i.val } }
  else s.releaseButton (.treble i)

/-- R6, R7: an accepted treble press; one that is not latent is a wake cause. -/
def State.treblePress (i : Fin 96) (s : State) : State :=
  if s.ksu.latentButtons.getLsbD i.val then s else (s.reportWake).press (.treble i)

/-! ## A scan -/

/-- R5 step 4: the accepted tab changes, ascending, each handed on with the pattern before and after it. -/
def State.tabChanges : List (Fin 12) → BitVec 12 → State → State
  | [], _, s => s
  | j :: rest, p, s => (s.trebleTabChange p (p ^^^ BitVec.twoPow 12 j.val)).tabChanges rest (p ^^^ BitVec.twoPow 12 j.val)

/-- R5: the acceptances of one scan in PLAYING or RESTING, from the accepted inputs and their new states. -/
def State.acceptances (old new : Ksu) (s : State) : State :=
  let chins := bitsOf (old.chins.state ^^^ new.chins.state)
  let buttons := old.buttons.state ^^^ new.buttons.state
  let s1 := chins.foldl (fun s n => s.chinEdge n (new.chins.state.getLsbD n.val)) s
  let s2 := (bitsOf (buttons &&& old.buttons.state)).foldl (fun s i => s.trebleRelease i) s1
  let s3 := (bitsOf (buttons &&& new.buttons.state)).foldl (fun s i => s.treblePress i) s2
  s3.tabChanges (bitsOf (old.tabs.state ^^^ new.tabs.state)) old.tabs.state

/-- R3: every input of the KSU is compared with its sample. -/
def Ksu.debounced (buttons : BitVec 96) (tabs : BitVec 12) (chins : BitVec 4) (k : Ksu) : Ksu :=
  { k with
    buttons := k.buttons.debounced k.debounceCount buttons
    tabs := k.tabs.debounced k.debounceCount tabs
    chins := k.chins.debounced k.debounceCount chins }

/-- R2: the next scan begins at the period of the activity state. -/
def State.nextScan (s : State) : State :=
  { s with ksu := { s.ksu with scanPeriod := if s.act.activity = .resting then .ms2 else .us250 } }

/-- SCAN_COMPLETION (R2 to R7, R14 to R17): debounce, then the acceptances unless in SETUP. -/
def State.scanCompletion (buttons : BitVec 96) (tabs : BitVec 12) (chins : BitVec 4) (s : State) : State :=
  let new := s.ksu.debounced buttons tabs chins
  let s1 : State := { s with ksu := new }
  let s2 := if s.act.activity = .setup then s1 else s1.acceptances s.ksu new
  s2.nextScan

/-- SETTLE_EXPIRY (R11): it expires only in a SETTLING group. -/
def State.settleExpiry (side : Side) (s : State) : State :=
  match side with
  | .treble =>
    if s.ksu.group.state = .armed then s
    else
      let out := s.ksu.group.settled s.ksu.tabs.state
      let s1 : State := { s with ksu := { s.ksu with group := out.1 } }
      (out.2.map fun p => s1.trebleLookup p).getD s1
  | .bass =>
    if s.blr.group.state = .armed then s
    else
      let out := s.blr.group.settled s.blr.tabImage
      let s1 : State := { s with blr := { s.blr with group := out.1 } }
      (out.2.map fun p => s1.bassLookup p).getD s1

def execScanCompletion (buttons : BitVec 96) (tabs : BitVec 12) (chins : BitVec 4) (s : State) :
    Host.Outcome State Fault Refusal :=
  s.live (State.scanCompletion buttons tabs chins)

def execSettleExpiry (side : Side) (s : State) : Host.Outcome State Fault Refusal := s.live (State.settleExpiry side)

end Sys2Proof.Machine
end

