-- ==== Sys2Proof/Machine/Link.lean ====
section
/-! DEFINITION. The Bass Link Receiver (chapter 2): the character receiver, the frame assembler, accepted frames, loss
and recovery; with the meanings of the bass line's events. -/

namespace Sys2Proof.Machine

/-- R21, R22: the assembler returns to SEEKING, where no gap timer runs. -/
def Blr.seek (b : Blr) : Blr := { b with assembler := .seeking, gapRunning := false }

/-- R22: an abandoned frame is counted, up to 255, and the assembler seeks. -/
def State.abandonFrame (s : State) : State :=
  { s with blr := { s.blr.seek with errors := min 255 (s.blr.errors + 1) } }

/-- R23, R24, R29: any character and frame in reception is abandoned without counting; the receiver awaits idle. -/
def Blr.stopReception (b : Blr) : Blr :=
  { b.seek with receiver := .awaitingIdle }

/-! ## Accepted frames (2.6, 2.7) -/

/-- R27: a release taken from a frame. -/
def State.bassRelease (k : Fin 120) (s : State) : State :=
  if s.blr.latent.getLsbD k.val then { s with blr := { s.blr with latent := clearBit s.blr.latent k.val } }
  else s.releaseButton (.bass k)

/-- R27: a press taken from a frame, a wake cause. -/
def State.bassPress (k : Fin 120) (s : State) : State := s.reportWake.press (.bass k)

/-- R26 to R28: the frame's button image is compared with the last one and becomes it. -/
def State.buttonImage (image : BitVec 120) (s : State) : State :=
  let s2 :=
    if s.act.activity = .setup then s
    else
      let s1 := (bitsOf (s.blr.image &&& ~~~ image)).foldl (fun s k => s.bassRelease k) s
      (bitsOf (image &&& ~~~ s.blr.image)).foldl (fun s k => s.bassPress k) s1
  { s2 with blr := { s2.blr with image := image } }

/-- R13: the frame's tab image; in SETUP it is set without a change being handed on. -/
def State.tabImageIn (image : BitVec 5) (s : State) : State :=
  let s1 :=
    if s.act.activity = .setup ∨ image = s.blr.tabImage then s else s.bassTabChange s.blr.tabImage image
  { s1 with blr := { s1.blr with tabImage := image } }

/-- R31: a frame in DOWN or LOST brings the link UP. -/
def State.linkUp (s : State) : State :=
  let s1 : State := { s with blr := { s.blr with link := .up } }
  if s.blr.link = .lost then s1.setNotice .linkBack else s1

/-- R26, R31: an accepted frame is handled. The conductor in use stays as it is; for a frame that completed before a
loss expiry in AUTO moved the receiver, that is the conductor moved to (R25), which is the model's choice
(notes/assumptions/10.md). -/
def State.handleFrame (frame : BitVec 160) (s : State) : State :=
  let s1 := s.linkUp
  let s2 : State := { s1 with blr := { s1.blr with lossTimer := 0 } }
  ((s2.buttonImage (frameButtons frame)).tabImageIn (frameTabs frame)).sample (frameSample frame) (frameFault frame)

/-- ACCEPTED_FRAME (R22, R25, R26): the frame that the assembler has complete, and otherwise the one given, is checked
and handled. The frame given is complete at this moment, and the assembler returns to SEEKING. One that waited returned
it there at its own completion, and the bytes that the assembler has kept since belong to the next frame. -/
def State.acceptFrame (frame : BitVec 160) (s : State) : State :=
  let f := s.blr.complete.getD frame
  let b := if s.blr.complete.isSome then { s.blr with complete := none } else s.blr.seek
  let s1 : State := { s with blr := b }
  if byteSum f 20 % 256 = 0xFF then s1.handleFrame f else s1.abandonFrame

/-- A frame that is complete and not yet handled is handled, an event of its own after which the quiet conditions are
watched (R22, R26, R157). -/
def State.waitingFrame (s : State) : State :=
  match s.blr.complete with
  | some f => (s.acceptFrame f).watchQuiet
  | none => s

/-! ## Characters (2.2, 2.3) -/

/-- R22: the 20th byte is kept: the frame is checked, and a good one is complete. One that is still waiting is handled
first (R26). -/
def State.completeFrame (bytes : List Byte) (s : State) : State :=
  let s1 : State := { s with blr := s.blr.seek }
  let f : BitVec 160 := BitVec.ofNat 160 (natOfBytes bytes)
  if byteSum f 20 % 256 = 0xFF then
    let s2 := s1.waitingFrame
    { s2 with blr := { s2.blr with complete := some f } }
  else s1.abandonFrame

/-- R21: a good character reaches the assembler. -/
def State.goodCharacter (b : Byte) (s : State) : State :=
  match s.blr.assembler with
  | .seeking =>
    if b = 0xB5 then { s with blr := { s.blr with assembler := .collecting [b], gapRunning := true } } else s
  | .collecting bytes =>
    if bytes.length + 1 < 20 then
      { s with blr := { s.blr with assembler := .collecting (bytes ++ [b]), gapRunning := true } }
    else s.completeFrame (bytes ++ [b])

/-- R20, R21: a bad character reaches the assembler. -/
def State.badCharacter (s : State) : State :=
  match s.blr.assembler with
  | .seeking => s
  | .collecting _ => s.abandonFrame

/-- NOISE_START_BIT (R19): the receiver is idle again, and the gap timer of a frame in COLLECTING runs as if no start
had been. -/
def State.noiseStart (s : State) : State :=
  if s.blr.receiver = .receiving then
    { s with blr := { s.blr with receiver := .idle, gapRunning := s.blr.assembler != .seeking } }
  else s

/-- BASS_CHARACTER (R19 to R22): the bits are taken at the sample points of the trim; a start bit that reads high was
noise. A receiver that awaits idle takes no character. -/
def State.character (line : BitVec 176) (s : State) : State :=
  if s.blr.receiver = .awaitingIdle then s
  else if lineBit line s.blr.trim 0 then
    ({ s with blr := { s.blr with receiver := .receiving } } : State).noiseStart
  else
    let stop := lineBit line s.blr.trim 10
    let s1 : State := { s with blr := { s.blr with receiver := if stop then .idle else .awaitingIdle } }
    if stop && parityGood line s.blr.trim then s1.goodCharacter (lineByte line s.blr.trim) else s1.badCharacter

/-- GAP_EXPIRY (R21): the gap timer expires only where it runs in COLLECTING. -/
def State.gapExpiry (s : State) : State :=
  if s.blr.gapRunning = true ∧ s.blr.assembler ≠ .seeking then s.abandonFrame else s

/-- START_BIT_DETECTION (R19, R21): an idle receiver begins a character and the gap timer stops. -/
def State.startBit (s : State) : State :=
  if s.blr.receiver = .idle then { s with blr := { s.blr with receiver := .receiving, gapRunning := false } } else s

/-- HIGH_SAMPLE_IN_AWAITING_IDLE (R20). -/
def State.highSample (s : State) : State :=
  if s.blr.receiver = .awaitingIdle then { s with blr := { s.blr with receiver := .idle } } else s

/-! ## Loss (2.7) -/

def Conductor.other : Conductor → Conductor
  | .main => .spare
  | .spare => .main

/-- R29 step 6, R30: in AUTO the receiver moves to the other conductor; the loss timer restarts. -/
def State.moveConductor (s : State) : State :=
  let b := { s.blr with lossTimer := 0 }
  { s with
    blr := if s.blr.lineSelect = .auto then { b with conductor := b.conductor.other }.stopReception else b }

/-- R29 steps 2 and 3: every pressed bass button is released, ascending; in SETUP nothing is raised. -/
def State.releaseImage (s : State) : State :=
  let s1 :=
    if s.act.activity = .setup then
      { s with blr := { s.blr with latent := s.blr.latent &&& ~~~ s.blr.image } }
    else (bitsOf s.blr.image).foldl (fun s k => s.bassRelease k) s
  { s1 with blr := { s1.blr with image := 0 } }

/-- LOSS_TIMER_EXPIRY (R29, R30). -/
def State.lossExpiry (s : State) : State :=
  if s.blr.link = .up then
    let s1 : State := { s with blr := { s.blr with link := .lost } }
    (s1.releaseImage.bellowsLinkLost.setNotice .linkLost).moveConductor
  else s.moveConductor

/-! ## Meanings -/

def execBassCharacter (line : BitVec 176) (s : State) : Host.Outcome State Fault Refusal :=
  s.live (State.character line)

def execGapExpiry (s : State) : Host.Outcome State Fault Refusal := s.event State.gapExpiry

def execAcceptedFrame (frame : BitVec 160) (s : State) : Host.Outcome State Fault Refusal :=
  s.live (State.acceptFrame frame)

def execLossTimerExpiry (s : State) : Host.Outcome State Fault Refusal := s.live State.lossExpiry

def execStartBitDetection (s : State) : Host.Outcome State Fault Refusal := s.event State.startBit

def execNoiseStartBit (s : State) : Host.Outcome State Fault Refusal := s.event State.noiseStart

def execHighSampleInAwaitingIdle (s : State) : Host.Outcome State Fault Refusal := s.event State.highSample

end Sys2Proof.Machine
end

