-- ==== Sys2Proof/Machine/Requests.lean ====
section
/-! DEFINITION. The Controller Port (chapter 11): transactions, the responses' payloads (Table 12-7), and the meanings
of the requests and of the port's own events. -/

namespace Sys2Proof.Machine

/-! ## Transactions (R163 to R165) -/

/-- The bytes of a response: its status and its payload (R177). -/
def Response.bytes (r : Response) : List Byte := r.status.code :: r.payload

/-- A response with no payload. -/
def bare (st : Status) : Response := { status := st, payload := [] }

/-- The response OK with a payload. -/
def okWith (payload : List Byte) : Response := { status := .ok, payload := payload }

/-- The byte clocked out at place `n` of a transaction: the response, then fill bytes of 0xFF (R163). -/
def State.dataOut (s : State) (n : Nat) : Byte := s.cpt.clockedOut.getD n 0xFF

/-- R164: an early transaction clocks out NOT_READY and its request is discarded. -/
def State.earlyOut (s : State) : State :=
  { s with cpt := { s.cpt with buffer := [], clockedOut := (bare .notReady).bytes } }

/-- R164: a taken request: the pending response is delivered, the request is executed whole, its response becomes
pending and the busy window opens. -/
def State.takeRequest (f : State → Response × State) (s : State) : State :=
  let out := f s
  { out.2 with
    cpt := { out.2.cpt with
      buffer := [], response := out.1, busy := true, clockedOut := s.cpt.response.bytes } }

/-- A transaction that carries a request: discarded while the part is held in reset (R161), early while the busy window
is open, and otherwise taken (R164). -/
def State.request (f : State → Response × State) (s : State) : Host.Outcome State Fault Refusal :=
  s.event fun s => if s.cpt.busy then s.earlyOut else s.takeRequest f

/-- A request that only reads. -/
def State.readRequest (f : State → Response) (s : State) : Host.Outcome State Fault Refusal :=
  s.request fun s => (f s, s)

/-- A request refused with a status: it changes no state (R165). -/
def refuse (st : Status) (s : State) : Response × State := (bare st, s)

/-! ## Payloads (Table 12-7) -/

/-- The five bytes of a holder entry: the button and the press time of its hold. -/
def State.holderBytes (s : State) (b : Button) : List Byte :=
  b.code :: bytesOfNat 4 ((s.hold? b).map (·.pressTime.toNat) |>.getD 0)

/-- The sixteen bytes of a slot entry; the voice id byte of a slot that is not VOICED is the free byte given. -/
def slotBytes (free : Byte) (x : Slot) : List Byte :=
  layerBytes x.layer ++
    [(x.soundingPitch.map natByte).getD 0xFF, x.status.code,
      match x.status with
      | .voiced v => natByte v.val
      | _ => free,
      (x.override.map natByte).getD 0xFF, flagByte x.mute]

/-- A list of bytes made `n` long with zeros. -/
def padTo (n : Nat) (l : List Byte) : List Byte := l ++ List.replicate (n - l.length) 0

/-- The 115 bytes of a record response; the state is HELD 0 or SUSTAINED 1 (R67, R172). -/
def State.recordBytes (s : State) (x : Record) : List Byte :=
  [sideCode x.key.side, natByte x.key.pitch, if x.holders.isEmpty then 1 else 0, natByte x.holders.length] ++
    bytesOfNat 2 x.generation.toNat ++ bytesOfNat 4 x.stamp.toNat ++ padTo 40 (x.holders.flatMap s.holderBytes) ++
    [natByte x.slots.length] ++
    padTo 64 ((x.slots.mapIdx fun j y => slotBytes (Config.freeByte (s.freeCount + j)) y).flatten)

/-- The tail deadline's kind and value (Table 12-7). -/
def TailDeadline.bytes : TailDeadline → List Byte
  | .absent => [0, 0, 0, 0, 0]
  | .length ms => 1 :: bytesOfNat 4 ms
  | .moment m => 2 :: bytesOfNat 4 m

/-- The 29 bytes of a voice response. -/
def Voice.bytes (x : Voice) : List Byte :=
  [x.state.code, flagByte x.owner.isSome] ++
    (match x.owner with
      | some r => [sideCode r.key.side, natByte r.key.pitch, natByte r.slot]
      | none => [0, 0, 0]) ++
    [sideCode x.side, x.tag.setWidth 8, x.pending.code, flagByte x.eligibleFrom.isSome] ++
    bytesOfNat 4 (x.eligibleFrom.getD 0) ++ [natByte x.lastSent, natByte x.target, flagByte x.dirty] ++
    bytesOfNat 4 x.startStamp.toNat ++ bytesOfNat 4 x.releaseStamp.toNat ++ x.tail.bytes

/-- The number of voices in a state (R166). -/
def State.voiceCount (s : State) (st : VoiceState) : Nat := s.val.voices.toList.countP fun v => v.state == st

/-- The apply pass byte of STATUS. -/
def passByte : Option Pass → Byte
  | none => 0
  | some p =>
    match p.sides with
    | .treble => 1
    | .bass => 2
    | .both => 3

/-- The 30 bytes of a STATUS response (R166). -/
def State.statusBytes (s : State) : List Byte :=
  [s.act.activity.code, s.vbc.bus.code, s.presentMask.setWidth 8] ++
    s.vbc.engines.toList.map (fun e => natByte e.capacity) ++
    [s.blr.link.code, s.blr.conductor.code, s.bwu.direction.code] ++ bytesOfNat 2 s.bwu.smoothed ++
    bytesOfNat 2 s.bwu.reversals.toNat ++ [natByte s.htm.holds.length, natByte s.sdt.records.length] ++
    [VoiceState.free, .sounding, .releasing, .cutting].map (fun st => natByte (s.voiceCount st)) ++
    bytesOfNat 2 s.val.waiting.length ++ [natByte s.vbc.sendList.length, passByte s.rsa.pass] ++
    bytesOfNat 2 s.rsa.generation.toNat ++
    [natByte s.rsa.treble.entry, natByte s.rsa.bass.entry, natByte s.blr.errors, natByte s.vbc.wakeAttempts]

/-! ## Records (R83 to R86) -/

/-- The key that a side byte and a pitch byte name; `none` where they are refused (R83). -/
def keyOf (side pitch : Byte) : Option Key :=
  if pitch.toNat ≤ 127 then (sideOf side).map fun x => { side := x, pitch := pitch.toNat } else none

/-- The response with a record, or NO_RECORD; free values are used up with it. -/
def State.recordAnswer (found : Option Record) (s : State) : Response × State :=
  match found with
  | some x => (okWith (s.recordBytes x), { s with freeCount := s.freeCount + 4 })
  | none => (bare .noRecord, s)

/-- FIND (R83). -/
def State.doFind (side pitch : Byte) (s : State) : Response × State :=
  match keyOf side pitch with
  | none => refuse .badArg s
  | some k => s.recordAnswer (s.record? k)

/-- SCAN (R83). -/
def State.doScan (side pitch : Byte) (s : State) : Response × State :=
  match keyOf side pitch with
  | none => refuse .badArg s
  | some k => s.recordAnswer (s.sdt.records.find? fun x => k.place ≤ x.key.place)

/-- The override byte: 0xFF is none, 128..254 clamp to 127 (R177). -/
def overrideOf (b : Byte) : Option Nat := if b = 0xFF then none else some (clamp 0 127 b.toNat)

/-- ADJUST (R84). -/
def State.doAdjust (side pitch slot level mute : Byte) (s : State) : Response × State :=
  match keyOf side pitch with
  | none => refuse .badArg s
  | some k =>
    match s.record? k with
    | none => refuse .noRecord s
    | some x =>
      match x.slots[slot.toNat]? with
      | none => refuse .badArg s
      | some y =>
        let s1 := s.changeSlot { key := k, slot := slot.toNat } fun z =>
          { z with override := overrideOf level, mute := mute != 0 }
        match y.status with
        | .voiced v => (bare .ok, s1.updateLevel v)
        | _ => (bare .ok, s1)

/-- RETIRE (R85). -/
def State.doRetire (side pitch : Byte) (s : State) : Response × State :=
  match keyOf side pitch with
  | none => refuse .badArg s
  | some k => if (s.record? k).isSome then (bare .ok, s.cutRetire k) else refuse .noRecord s

/-- SILENCE (R86). -/
def State.doSilence (side : Byte) (s : State) : Response × State :=
  match sidesOf side with
  | none => refuse .badArg s
  | some sides => (bare .ok, s.silenceSides sides)

/-! ## Tables and settings -/

/-- PUT_REG (R145). -/
def State.doPutReg (entry : Byte) (treble bass : BitVec 392) (s : State) : Response × State :=
  if h : entry.toNat < 32 then
    match halfOf 12 treble, halfOf 5 bass with
    | some t, some b =>
      (bare .ok,
        { s with rsa := { s.rsa with table := s.rsa.table.set entry.toNat { treble := t, bass := b } h } })
    | _, _ => refuse .badArg s
  else refuse .badArg s

/-- GET_REG (R145). -/
def State.doGetReg (entry : Byte) (s : State) : Response :=
  match s.rsa.table[entry.toNat]? with
  | some x => okWith (halfBytes x.treble ++ halfBytes x.bass)
  | none => bare .badArg

/-- PUT_CURVE (R109, R114). -/
def State.doPutCurve (curve : Byte) (points : BitVec 72) (s : State) : Response × State :=
  if h : curve.toNat < 16 then
    let y : Vector Nat 9 := Vector.ofFn fun i => clamp 0 127 (byteAt points i.val).toNat
    (bare .ok,
      ({ s with exu := { s.exu with curves := s.exu.curves.set curve.toNat y h } } : State).updateCurve curve.toNat)
  else refuse .badArg s

/-- GET_CURVE (R109). -/
def State.doGetCurve (curve : Byte) (s : State) : Response :=
  match s.exu.curves[curve.toNat]? with
  | some y => okWith (y.toList.map natByte)
  | none => bare .badArg

/-- PUT_MAP (R54). -/
def State.doPutMap (entries : BitVec 768) (trebleBase bassBase chordBase : Byte) (s : State) : Response × State :=
  (bare .ok,
    { s with
      htm := { s.htm with
        map := Vector.ofFn fun i => mapEntryOf (byteAt entries i.val)
        trebleBase := clamp 0 127 trebleBase.toNat
        bassBase := clamp 0 116 bassBase.toNat
        chordBase := clamp 0 116 chordBase.toNat } })

/-- The KSU's settings written (R12, R18). -/
def Ksu.setup (x : BitVec 352) (k : Ksu) : Ksu :=
  { k with
    debounceCount := clamp 1 8 (byteAt x 0).toNat
    settleTime := clamp 5 100 (byteAt x 1).toNat
    group := k.group.write (x.extractLsb' 16 12) (x.extractLsb' 32 12)
    switches := Vector.ofFn fun n => chinSwitchAt x n.val
    octave := clampInt (-2) 2 (signedAt x 28) }

/-- A line select written: a value not held abandons the reception and may change the conductor (R23). -/
def Blr.writeLineSelect (l : LineSelect) (b : Blr) : Blr :=
  if b.lineSelect = l then b
  else
    { b with
      lineSelect := l
      conductor := match l with
        | .main => .main
        | .spare => .spare
        | .auto => b.conductor }.stopReception

/-- A trim written: a value not held abandons the reception (R24). -/
def Blr.writeTrim (t : Int) (b : Blr) : Blr := if b.trim = t then b else { b with trim := t }.stopReception

/-- The BLR's settings and the bass group's mask and reference written (R12, R23, R24). -/
def Blr.setup (x : BitVec 352) (b : Blr) : Blr :=
  let b1 := { b with
    group := b.group.write (x.extractLsb' 48 5) (x.extractLsb' 56 5), lossTime := clamp 8 255 (byteAt x 31).toNat }
  (b1.writeLineSelect ((lineSelectOf (byteAt x 29)).getD .main)).writeTrim (clampInt (-2) 2 (signedAt x 30))

/-- The BWU's settings written (R48). -/
def Bwu.setup (x : BitVec 352) (b : Bwu) : Bwu :=
  { b with
    offset := clampInt (-256) 255 (x.extractLsb' 256 16).toInt
    deadBand := clamp 0 255 (byteAt x 34).toNat
    restCount := clamp 1 32 (byteAt x 35).toNat
    window := clamp 1 255 (byteAt x 36).toNat
    shift := clamp 0 7 (byteAt x 37).toNat }

/-- PUT_SETUP (R167). A frame that completed before it is handled before the write (R23). -/
def State.doPutSetup (x : BitVec 352) (s : State) : Response × State :=
  if setupAccepted x then
    let s := s.waitingFrame
    (bare .ok,
      { s with
        ksu := s.ksu.setup x
        blr := s.blr.setup x
        bwu := s.bwu.setup x
        val := { s.val with minSounding := clamp 0 16 (byteAt x 38).toNat }
        exu := { s.exu with threshold := clamp 1 8 (byteAt x 39).toNat }
        vbc := { s.vbc with expected := expectedMaskOf (byteAt x 40), wakeTime := clamp 10 1000 (wordAt x 41) }
        act := { s.act with hushTime := clamp 0 60 (byteAt x 43).toNat } })
  else refuse .badArg s

/-! ## Operations -/

/-- APPLY (R147). -/
def State.doApply (entry halves : Byte) (s : State) : Response × State :=
  match sidesOf halves with
  | none => refuse .badArg s
  | some sides =>
    if h : entry.toNat < 32 then (bare .accepted, s.applyEntry ⟨entry.toNat, h⟩ sides)
    else refuse .badArg s

/-- CALIBRATE (R45). -/
def State.doCalibrate (s : State) : Response × State :=
  if s.blr.link = .up then
    (bare .accepted,
      ({ s with bwu := { s.bwu with calibration := .collecting 0 0 none } } : State).watchQuiet)
  else refuse .wrongState s

/-- START (R156). -/
def State.doStart (s : State) : Response × State :=
  if s.act.activity = .setup then (bare .ok, s.startPlaying) else refuse .wrongState s

/-- WAKE (R160). -/
def State.doWake (s : State) : Response × State :=
  match s.act.activity with
  | .resting => (bare .ok, s.wakeUp)
  | .playing => (bare .ok, { s with act := { s.act with hush := 0 } })
  | .setup => refuse .wrongState s

/-- A notice mask of three bytes; bits 21 and above are ignored (R168). -/
def noticeMask (mask : BitVec 24) : BitVec 21 := mask.setWidth 21

/-! ## Meanings -/

/-- NOP (R164). -/
def execNop (s : State) : Host.Outcome State Fault Refusal := s.readRequest fun _ => bare .ok

/-- STATUS (R166). -/
def execStatus (s : State) : Host.Outcome State Fault Refusal := s.readRequest fun s => okWith s.statusBytes

def execFind (side pitch : Byte) (s : State) : Host.Outcome State Fault Refusal := s.request (State.doFind side pitch)

def execScan (side pitch : Byte) (s : State) : Host.Outcome State Fault Refusal := s.request (State.doScan side pitch)

/-- VOICE (R107). -/
def execVoice (id : Byte) (s : State) : Host.Outcome State Fault Refusal :=
  s.readRequest fun s =>
    match s.val.voices[id.toNat]? with
    | some x => okWith x.bytes
    | none => bare .badArg

def execAdjust (side pitch slot level mute : Byte) (s : State) : Host.Outcome State Fault Refusal :=
  s.request (State.doAdjust side pitch slot level mute)

def execRetire (side pitch : Byte) (s : State) : Host.Outcome State Fault Refusal :=
  s.request (State.doRetire side pitch)

def execSilence (side : Byte) (s : State) : Host.Outcome State Fault Refusal := s.request (State.doSilence side)

def execPutReg (entry : Byte) (treble bass : BitVec 392) (s : State) : Host.Outcome State Fault Refusal :=
  s.request (State.doPutReg entry treble bass)

def execGetReg (entry : Byte) (s : State) : Host.Outcome State Fault Refusal := s.readRequest (State.doGetReg entry)

def execPutCurve (curve : Byte) (points : BitVec 72) (s : State) : Host.Outcome State Fault Refusal :=
  s.request (State.doPutCurve curve points)

def execGetCurve (curve : Byte) (s : State) : Host.Outcome State Fault Refusal :=
  s.readRequest (State.doGetCurve curve)

def execPutMap (entries : BitVec 768) (trebleBase bassBase chordBase : Byte) (s : State) :
    Host.Outcome State Fault Refusal :=
  s.request (State.doPutMap entries trebleBase bassBase chordBase)

def execPutSetup (settings : BitVec 352) (s : State) : Host.Outcome State Fault Refusal :=
  s.request (State.doPutSetup settings)

/-- GET_SETUP (R167). -/
def execGetSetup (s : State) : Host.Outcome State Fault Refusal := s.readRequest fun s => okWith s.setupBytes

def execApply (entry halves : Byte) (s : State) : Host.Outcome State Fault Refusal :=
  s.request (State.doApply entry halves)

def execCalibrate (s : State) : Host.Outcome State Fault Refusal := s.request State.doCalibrate

/-- BUS_OPEN (R132). -/
def execBusOpen (s : State) : Host.Outcome State Fault Refusal := s.request fun s => (bare .ok, s.openBus)

/-- BUS_CLOSE (R137). -/
def execBusClose (s : State) : Host.Outcome State Fault Refusal := s.request fun s => (bare .ok, s.closeBus)

def execStart (s : State) : Host.Outcome State Fault Refusal := s.request State.doStart

def execWake (s : State) : Host.Outcome State Fault Refusal := s.request State.doWake

/-- NOTICES (R169). -/
def execNotices (s : State) : Host.Outcome State Fault Refusal :=
  s.readRequest fun s => okWith (bytesOfNat 3 s.cpt.notices.toNat)

/-- CLEAR_NOTICES (R169). -/
def execClearNotices (mask : BitVec 24) (s : State) : Host.Outcome State Fault Refusal :=
  s.request fun s =>
    (bare .ok, { s with cpt := { s.cpt with notices := s.cpt.notices &&& ~~~ noticeMask mask } })

/-- ENABLE (R170). -/
def execEnable (mask : BitVec 24) (s : State) : Host.Outcome State Fault Refusal :=
  s.request fun s => (bare .ok, { s with cpt := { s.cpt with enabled := noticeMask mask } })

/-- CLEAR_COUNTS (R22). -/
def execClearCounts (s : State) : Host.Outcome State Fault Refusal :=
  s.request fun s => (bare .ok, { s with blr := { s.blr with errors := 0 } })

/-- UNKNOWN_REQUEST (R165). -/
def execUnknownRequest (_kind : Byte) (s : State) : Host.Outcome State Fault Refusal :=
  s.readRequest fun _ => bare .unknown

/-- MALFORMED_REQUEST (R165). -/
def execMalformedRequest (_kind : Byte) (_received : Nat) (s : State) : Host.Outcome State Fault Refusal :=
  s.readRequest fun _ => bare .malformed

/-- EARLY_TRANSACTION (R164): only while the busy window is open is a transaction early. -/
def execEarlyTransaction (s : State) : Host.Outcome State Fault Refusal :=
  s.event fun s => if s.cpt.busy then s.earlyOut else s

/-- BUSY_WINDOW_EXPIRY (R164). -/
def execBusyWindowExpiry (s : State) : Host.Outcome State Fault Refusal :=
  s.event fun s => { s with cpt := { s.cpt with busy := false } }

end Sys2Proof.Machine
end

