-- ==== Sys2Proof/Machine/Resets.lean ====
section
/-! DEFINITION. The resets (R161, R162): COLD_RESET, LEAVING_COLD_RESET and WARM_RESET. -/

namespace Sys2Proof.Machine

/-- R161: a cold reset: every block at its cold reset values, and the part held. The commands that wait and the count of
free values are the model's own. -/
def State.coldReset (s : State) : State :=
  { State.reset with heldInReset := true, freeCount := s.freeCount, pending := s.pending }

/-- R161: the part leaves the held reset and its ticks begin again. -/
def State.leaveReset (s : State) : State :=
  if s.heldInReset then { s with heldInReset := false, frameTicks := 0, openTick := none } else s

/-- The KSU after a warm reset (Table 1-2). -/
def Ksu.warm (k : Ksu) : Ksu :=
  { State.reset.ksu with
    debounceCount := k.debounceCount, settleTime := k.settleTime, group := { k.group with state := .armed }
    switches := k.switches }

/-- The BLR and the bass group after a warm reset (Tables 2-2 and 1-2). -/
def Blr.warm (b : Blr) : Blr :=
  { State.reset.blr with
    lineSelect := b.lineSelect
    conductor := match b.lineSelect with
      | .spare => .spare
      | _ => .main
    trim := b.trim, lossTime := b.lossTime, group := { b.group with state := .armed } }

/-- The BWU after a warm reset (Table 3-3). -/
def Bwu.warm (b : Bwu) : Bwu :=
  { State.reset.bwu with
    offset := b.offset, deadBand := b.deadBand, restCount := b.restCount, window := b.window, shift := b.shift }

/-- R162: the warm reset of every block; the port keeps its enable set, and its response and busy window are the
WARM_RESET request's (R171). -/
def State.warmReset (s : State) : State :=
  { s with
    frameTicks := 0
    openTick := none
    ksu := s.ksu.warm
    blr := s.blr.warm
    bwu := s.bwu.warm
    htm := { s.htm with holds := [], trebleSustain := false, bassSustain := false }
    sdt := State.reset.sdt
    val := { State.reset.val with minSounding := s.val.minSounding }
    vbc := { State.reset.vbc with expected := s.vbc.expected, wakeTime := s.vbc.wakeTime }
    rsa := { s.rsa with generation := 0, pass := none }
    act := { s.act with activity := .setup, hush := 0 }
    cpt := { s.cpt with buffer := [], notices := 0 } }

/-- COLD_RESET (R161): it reaches a held part too. -/
def execColdReset (s : State) : Host.Outcome State Fault Refusal := .next s.coldReset

/-- LEAVING_COLD_RESET (R161). -/
def execLeavingColdReset (s : State) : Host.Outcome State Fault Refusal := .next s.leaveReset

/-- WARM_RESET (R162): OK is made pending and kept through the reset. -/
def execWarmReset (s : State) : Host.Outcome State Fault Refusal := s.request fun s => (bare .ok, s.warmReset)

end Sys2Proof.Machine
end

