-- ==== Sys2Proof/Machine/Tick.lean ====
section
/-! DEFINITION. The part's own clock (R1): what a step with no command waiting takes, one frame tick whole, with a
millisecond tick at every fourth; and the meanings of the commands that are taken at a tick, NORMAL_FRAME, WAKE_FRAME,
CLOSE_FRAME and APPLY_PASS_TICK. Notes: notes/assumptions/3.md, 6.md. -/

namespace Sys2Proof.Machine

/-- Whether a settle timer has run out (R11). -/
def GroupState.due : GroupState → Bool
  | .settling 0 => true
  | _ => false

/-- R121: the frame that the bus state at the beginning of the tick paces. -/
def State.pacedFrame (bus : BusState) (s : State) : State :=
  match bus with
  | .running => s.normalFrame
  | .closing => s.closeFrame
  | .waking => if s.frameTicks % 4 = 0 then s.wakeFrame else s
  | .held | .quiet => s

/-- R25: the loss timer's count reaches the loss time. -/
def State.lossDue (s : State) : State := if s.blr.lossTime ≤ s.blr.lossTimer then s.lossExpiry else s

/-- R11: the settle timers that have run out, the treble group's first. -/
def State.settleDue (s : State) : State :=
  let s1 := if s.ksu.group.state.due then s.settleExpiry .treble else s
  if s1.blr.group.state.due then s1.settleExpiry .bass else s1

/-- R133, R135, R137: the timers of the bus that have run out. -/
def State.busDue (s : State) : State :=
  let s1 := if s.vbc.wakeTimer = some 0 then s.wakeExpiry else s
  let s2 := if s1.vbc.holdOff = some 0 then s1.holdOffExpiry else s1
  if s2.vbc.closeTimer = some 0 then s2.closeExpiry else s2

/-- R99: whether a voice's tail has a deadline at or before the last millisecond tick. -/
def State.tailDue (s : State) (v : Fin 128) : Bool :=
  match (s.voice v).tail with
  | .moment m => m ≤ 4 * (s.frameTicks / 4)
  | _ => false

/-- R99: the tails that have overrun, by ascending voice id. -/
def State.tailsDue (s : State) : State :=
  (List.finRange 128).foldl (fun s v => if s.tailDue v then s.tailOverrun v else s) s

/-- The expiries that a millisecond tick brings (R1), the hush timer's last (R158). That of two which fall together, such
as the hold-off's in QUIET, after which the bus wakes and is closed again, and the hush timer's, before which it would
not wake (R133), the one named first is taken first is the model's choice (notes/assumptions/3.md). -/
def State.expiriesDue (s : State) : State := s.lossDue.settleDue.busDue.tailsDue.watchQuiet.hushExpiry

/-- All that the tick that stands still owes: a bass frame that waits, the apply pass, the paced frame and the expiries. -/
def State.finishTick (s : State) : State :=
  match s.openTick with
  | none => s
  | some o =>
    let s1 := s.waitingFrame
    let s2 := if o.visits then s1.passTick else s1
    let s3 := (if o.frame then s2.pacedFrame o.bus else s2).watchQuiet
    let s4 := if o.millisecond then s3.expiriesDue else s3
    { s4 with openTick := none }

/-- A step of the part's clock (R1): the tick that a command began is taken to its end, and otherwise one frame tick
whole, with the hush expiry where it is due (R158). On a HELD or QUIET bus with no apply pass in flight no command
begins a tick, so where none stands a wake cause which fails no quiet condition comes before the whole tick or after it,
never at the expiry's instant and first: the model's choice (notes/assumptions/3.md, 28.md). A part held in reset has no
ticks (R161). -/
def State.tick (s : State) : State :=
  if s.heldInReset then s else (if s.openTick.isSome then s else s.beginTick).finishTick

/-! ## Commands taken at a tick -/

/-- R1: `n` more frame ticks begin, each after the tick that stands has been taken to its end. -/
def State.passTicks : Nat → State → State
  | 0, s => s
  | n + 1, s => s.finishTick.beginTick.passTicks n

/-- R121: the frame ticks from the one that stands to the next at which the bus state paces a frame. -/
def State.ticksToFrame (bus : BusState) (s : State) : Nat := if bus = .waking then 4 - s.frameTicks % 4 else 1

/-- R121: the tick that stands gives its frame, built by `build`, where the bus is in the state named. -/
def State.takeFrame (bus : BusState) (build : State → State) (s : State) : State :=
  if s.vbc.bus = bus then build { s with openTick := s.openTick.map fun o => { o with frame := false } } else s

/-- R1, R121: a frame commanded in a bus state, at a tick of its own: the tick that stands, if it still owes the frame, and
otherwise the next that paces one, before which each tick is taken to its end. In another bus state there is no such
frame. -/
def State.commandFrame (bus : BusState) (build : State → State) (s : State) : State :=
  if s.vbc.bus = bus then
    let owed := s.owesFrame && (bus != .waking || s.frameTicks % 4 == 0)
    (if owed then s else s.passTicks (s.ticksToFrame bus)).takeFrame bus build
  else s

/-- R1, R148: the visits of an apply pass in flight, at a frame tick of their own: the tick that stands, if it still owes
them, and otherwise the next, before which the tick that stands is taken to its end. -/
def State.commandVisits (s : State) : State :=
  if s.rsa.pass.isSome then
    let s1 := if s.owesVisits then s else s.passTicks 1
    ({ s1 with openTick := s1.openTick.map fun o => { o with visits := false } } : State).passTick
  else s

/-- NORMAL_FRAME (R121, R124 to R129), in RUNNING only. -/
def execNormalFrame (s : State) : Host.Outcome State Fault Refusal :=
  s.live (State.commandFrame .running State.normalFrame)

/-- WAKE_FRAME (R121), in WAKING only, at a millisecond tick. -/
def execWakeFrame (s : State) : Host.Outcome State Fault Refusal := s.live (State.commandFrame .waking State.wakeFrame)

/-- CLOSE_FRAME (R121), in CLOSING only. -/
def execCloseFrame (s : State) : Host.Outcome State Fault Refusal :=
  s.live (State.commandFrame .closing State.closeFrame)

/-- APPLY_PASS_TICK (R148), while a pass is in flight. -/
def execApplyPassTick (s : State) : Host.Outcome State Fault Refusal := s.live State.commandVisits

end Sys2Proof.Machine
end

