-- ==== Sys2Proof/Machine/Dispatch.lean ====
section
/-! DEFINITION. One arm for each command: a direct call of its meaning. -/

namespace Sys2Proof.Machine

def exec (i : Instr) (s : State) : Host.Outcome State Fault Refusal :=
  match i with
  | .scanCompletion buttons tabs chins => Sys2Proof.Machine.execScanCompletion buttons tabs chins s
  | .settleExpiry side => Sys2Proof.Machine.execSettleExpiry side s
  | .tailExpiry voice => Sys2Proof.Machine.execTailExpiry voice s
  | .bassCharacter line => Sys2Proof.Machine.execBassCharacter line s
  | .gapExpiry => Sys2Proof.Machine.execGapExpiry s
  | .acceptedFrame frame => Sys2Proof.Machine.execAcceptedFrame frame s
  | .lossTimerExpiry => Sys2Proof.Machine.execLossTimerExpiry s
  | .normalFrame => Sys2Proof.Machine.execNormalFrame s
  | .wakeFrame => Sys2Proof.Machine.execWakeFrame s
  | .closeFrame => Sys2Proof.Machine.execCloseFrame s
  | .upstreamAnswer frame => Sys2Proof.Machine.execUpstreamAnswer frame s
  | .wakeTimerExpiry => Sys2Proof.Machine.execWakeTimerExpiry s
  | .holdOffExpiry => Sys2Proof.Machine.execHoldOffExpiry s
  | .closeTimerExpiry => Sys2Proof.Machine.execCloseTimerExpiry s
  | .applyPassTick => Sys2Proof.Machine.execApplyPassTick s
  | .hushExpiry => Sys2Proof.Machine.execHushExpiry s
  | .coldReset => Sys2Proof.Machine.execColdReset s
  | .warmReset => Sys2Proof.Machine.execWarmReset s
  | .earlyTransaction => Sys2Proof.Machine.execEarlyTransaction s
  | .busyWindowExpiry => Sys2Proof.Machine.execBusyWindowExpiry s
  | .unknownRequest kind => Sys2Proof.Machine.execUnknownRequest kind s
  | .nop => Sys2Proof.Machine.execNop s
  | .status => Sys2Proof.Machine.execStatus s
  | .find side pitch => Sys2Proof.Machine.execFind side pitch s
  | .scan side pitch => Sys2Proof.Machine.execScan side pitch s
  | .voice id => Sys2Proof.Machine.execVoice id s
  | .adjust side pitch slot level mute => Sys2Proof.Machine.execAdjust side pitch slot level mute s
  | .retire side pitch => Sys2Proof.Machine.execRetire side pitch s
  | .silence side => Sys2Proof.Machine.execSilence side s
  | .putReg entry treble bass => Sys2Proof.Machine.execPutReg entry treble bass s
  | .getReg entry => Sys2Proof.Machine.execGetReg entry s
  | .putCurve curve points => Sys2Proof.Machine.execPutCurve curve points s
  | .getCurve curve => Sys2Proof.Machine.execGetCurve curve s
  | .putMap entries tb bb cb => Sys2Proof.Machine.execPutMap entries tb bb cb s
  | .putSetup settings => Sys2Proof.Machine.execPutSetup settings s
  | .getSetup => Sys2Proof.Machine.execGetSetup s
  | .apply entry halves => Sys2Proof.Machine.execApply entry halves s
  | .calibrate => Sys2Proof.Machine.execCalibrate s
  | .busOpen => Sys2Proof.Machine.execBusOpen s
  | .busClose => Sys2Proof.Machine.execBusClose s
  | .start => Sys2Proof.Machine.execStart s
  | .wake => Sys2Proof.Machine.execWake s
  | .notices => Sys2Proof.Machine.execNotices s
  | .clearNotices mask => Sys2Proof.Machine.execClearNotices mask s
  | .enable mask => Sys2Proof.Machine.execEnable mask s
  | .clearCounts => Sys2Proof.Machine.execClearCounts s
  | .malformedRequest kind received => Sys2Proof.Machine.execMalformedRequest kind received s
  | .startBitDetection => Sys2Proof.Machine.execStartBitDetection s
  | .noiseStartBit => Sys2Proof.Machine.execNoiseStartBit s
  | .highSampleInAwaitingIdle => Sys2Proof.Machine.execHighSampleInAwaitingIdle s
  | .leavingColdReset => Sys2Proof.Machine.execLeavingColdReset s

end Sys2Proof.Machine
end

