-- ==== Sys2Proof/Machine/Transaction.lean ====
section
/-! DEFINITION. A transaction of the controller port bit by bit (R163): the bytes its bits make, the command that it is, and
what the data-out line carries. Chip select rises between two commands, so a command is a transaction at its end. -/

namespace Sys2Proof.Machine

/-- The bits of a byte as the port sends and samples them: most significant bit first (R163). -/
def byteBits (b : Byte) : List Bool := [7, 6, 5, 4, 3, 2, 1, 0].map b.getLsbD

/-- R163: the bytes received from the bits sampled at the rising edges. A byte is received at its eighth edge; the bits of
a byte left incomplete when chip select rises are discarded. -/
def receivedBytes : List Bool → List Byte
  | b7 :: b6 :: b5 :: b4 :: b3 :: b2 :: b1 :: b0 :: rest =>
    BitVec.ofFnLE (fun i : Fin 8 => [b0, b1, b2, b3, b4, b5, b6, b7].getD i.val false) :: receivedBytes rest
  | _ => []

/-- The request buffer holds the bytes received; a transaction of a held part is discarded (R161). -/
def State.receive (bytes : List Byte) (s : State) : State :=
  if s.heldInReset then s else { s with cpt := { s.cpt with buffer := bytes } }

/-- R163, R164: a transaction of the bits sampled, at the rise of chip select that ends it. One in which no whole byte was
received takes no request and changes nothing: the response that it began to clock out is not delivered. -/
def State.transaction (bits : List Bool) (s : State) : Host.Outcome State Fault Refusal :=
  match decodeTransaction (receivedBytes bits) with
  | none => .next s
  | some c => exec c (s.receive (receivedBytes bits))

/-- The bytes that a transaction begun now clocks out before its fill bytes: the pending response, or NOT_READY while the
busy window is open (R163, R164). -/
def State.offered (s : State) : List Byte := (if s.cpt.busy then bare .notReady else s.cpt.response).bytes

/-- The level of the data-out line, `none` where it is released (R163). `edge` is the number of bits clocked so far in the
transaction in progress, and `none` where chip select is high, as it is between any two commands. A held part drives
nothing (notes/assumptions/8.md). -/
def State.dataOutLine (s : State) (edge : Option Nat) : Option Bool :=
  match edge with
  | none => none
  | some n => if s.heldInReset then none else some ((s.offered.getD (n / 8) 0xFF).getLsbD (7 - n % 8))

end Sys2Proof.Machine
end

