-- ==== Sys2Proof/Safety.lean ====
section
/-! DEFINITION. What a safe step is, and the laws of the part: the ranges of its settings, what the bus states allow, and
how its tables agree with one another. Each law is stated over any state; that every step keeps it is a claim. -/

namespace Sys2Proof

/-- A state whose step goes on: no rule names an event that stops the part. -/
def Safe (s : Machine.State) : Prop := ∃ t, Machine.step s = .next t

/-- The commands that are requests of the controller port (Table 12-5, R165). -/
def Instr.isRequest : Instr → Bool
  | .warmReset | .unknownRequest _ | .nop | .status | .find .. | .scan .. | .voice _ | .adjust .. | .retire ..
  | .silence _ | .putReg .. | .getReg _ | .putCurve .. | .getCurve _ | .putMap .. | .putSetup _ | .getSetup
  | .apply .. | .calibrate | .busOpen | .busClose | .start | .wake | .notices | .clearNotices _ | .enable _
  | .clearCounts | .malformedRequest .. => true
  | _ => false

/-- The commands that are taken at a frame tick of their own (R1, notes/assumptions/6.md). -/
def Instr.takesTick : Instr → Bool
  | .normalFrame | .wakeFrame | .closeFrame | .applyPassTick => true
  | _ => false

namespace Machine

/-! ## Requests -/

/-- A part that takes the next request: not held in reset, and the busy window closed (R161, R164). -/
def State.ready (s : State) : Prop := s.heldInReset = false ∧ s.cpt.busy = false

/-- What a taken request leaves at the port, with `u` the rest of the state after it: the response before it is
delivered, its own is pending, and the busy window is open (R164). -/
def State.answered (s u : State) (r : Response) : State :=
  { u with cpt := { u.cpt with buffer := [], response := r, busy := true, clockedOut := s.cpt.response.bytes } }

/-- The port alone after a taken request: its flags and enable set stay (R164). -/
def State.cptAfter (s : State) (r : Response) : Cpt := (s.answered s r).cpt

/-! ## Words for the statements -/

/-- The hush timer as R157 has it in PLAYING: 0 while a quiet condition fails. -/
def State.hushed (s : State) : Prop := s.act.activity = .playing → s.quiet = false → s.act.hush = 0

/-- R3 for inputs of one kind: where the sample agrees the counter is 0; where it differs the counter counts, and at
`N` the state takes the sample and the counter is 0. -/
def Contacts.followScan {n : Nat} (count : Nat) (before : Contacts n) (samples : BitVec n) (after : Contacts n) : Prop :=
  ∀ i : Fin n,
    if before.state.getLsbD i.val = samples.getLsbD i.val then
      after.state.getLsbD i.val = before.state.getLsbD i.val ∧ after.counts[i] = 0
    else if count ≤ before.counts[i] + 1 then
      after.state.getLsbD i.val = samples.getLsbD i.val ∧ after.counts[i] = 0
    else after.state.getLsbD i.val = before.state.getLsbD i.val ∧ after.counts[i] = before.counts[i] + 1

/-- A scan that accepts nothing but chin switch edges, those of `chins` (R3). -/
abbrev State.acceptsChins (s : State) (buttons : BitVec 96) (tabs : BitVec 12) (samples chins : BitVec 4) : Prop :=
  s.ksu.buttons.accepted s.ksu.debounceCount buttons = 0 ∧ s.ksu.tabs.accepted s.ksu.debounceCount tabs = 0 ∧
    s.ksu.chins.accepted s.ksu.debounceCount samples = chins

/-- A scan that accepts nothing but changes of the treble buttons in `buttons` (R3). -/
abbrev State.acceptsButtons (s : State) (samples buttons : BitVec 96) (tabs : BitVec 12) (chins : BitVec 4) : Prop :=
  s.ksu.buttons.accepted s.ksu.debounceCount samples = buttons ∧ s.ksu.tabs.accepted s.ksu.debounceCount tabs = 0 ∧
    s.ksu.chins.accepted s.ksu.debounceCount chins = 0

/-- A scan that accepts nothing but changes of the treble tabs in `changes` (R3). -/
abbrev State.acceptsTabs (s : State) (buttons : BitVec 96) (tabs changes : BitVec 12) (chins : BitVec 4) : Prop :=
  s.ksu.buttons.accepted s.ksu.debounceCount buttons = 0 ∧ s.ksu.tabs.accepted s.ksu.debounceCount tabs = changes ∧
    s.ksu.chins.accepted s.ksu.debounceCount chins = 0

/-- An ARMED tab group departs at a change of its input pattern (R8, R9). -/
def TabGroup.departs {n : Nat} (g : TabGroup n) (before after : BitVec n) : Prop :=
  g.state = .armed ∧ (before ^^^ g.reference) &&& g.mask = 0 ∧ (after ^^^ g.reference) &&& g.mask ≠ 0

/-- The state of a tab group after a change of its input pattern (R9, R10). -/
def TabGroup.stateAfter {n : Nat} (settleTime : Nat) (before after : BitVec n) (g : TabGroup n) : GroupState :=
  match g.state with
  | .armed =>
    if (before ^^^ g.reference) &&& g.mask = 0 ∧ (after ^^^ g.reference) &&& g.mask ≠ 0 then .settling settleTime
    else .armed
  | .settling left => if (before ^^^ after) &&& g.mask = 0 then .settling left else .settling settleTime

/-- A scan that holds a wake cause of R159: a press of a button that is not latent (R6), an edge of a chin switch
that is not latent, whose action is not NONE and which matches or is of a SUSTAIN_HOLD switch (R14), or a departure
of the treble tab group as its tabs change one by one (R5, R9). -/
def State.scanWakes (s : State) (buttons : BitVec 96) (tabs : BitVec 12) (chins : BitVec 4) : Prop :=
  let accepted := s.ksu.tabs.accepted s.ksu.debounceCount tabs
  let upTo := fun j : Nat => s.ksu.tabs.state ^^^ (accepted &&& BitVec.ofNat 12 (2 ^ j - 1))
  (∃ i : Fin 96, (s.ksu.buttons.accepted s.ksu.debounceCount buttons).getLsbD i.val = true ∧
    s.ksu.buttons.state.getLsbD i.val = false ∧ s.ksu.latentButtons.getLsbD i.val = false) ∨
  (∃ n : Fin 4, (s.ksu.chins.accepted s.ksu.debounceCount chins).getLsbD n.val = true ∧
    s.ksu.latentChins.getLsbD n.val = false ∧ s.ksu.switches[n].action ≠ .none ∧
    (s.ksu.switches[n].action = .sustainHold ∨ s.ksu.switches[n].edge = .both ∨
      s.ksu.switches[n].edge = if s.ksu.chins.state.getLsbD n.val then .release else .press)) ∨
  ∃ j : Fin 12, accepted.getLsbD j.val = true ∧ s.ksu.group.departs (upTo j.val) (upTo (j.val + 1))

/-- An accepted frame that holds a wake cause of R159: a bass press (R27, R31), a departure of the bass tab group (R9,
R13), or a good sample that departs from REST (R36, R38). -/
def State.frameWakes (s : State) (frame : BitVec 160) : Prop :=
  byteSum frame 20 % 256 = 0xFF ∧
    ((∃ k : Fin 120, frame.getLsbD (8 + k.val) = true ∧ s.blr.image.getLsbD k.val = false) ∨
      s.blr.group.departs s.blr.tabImage (frame.extractLsb' 128 5) ∨
      frame.getLsbD 151 = false ∧ s.bwu.direction = .rest ∧
        s.bwu.deadBand < (offsetSample ((frame.extractLsb' 136 12 : BitVec 12).toInt) s.bwu.offset).natAbs)

/-- The part after a wake cause: a resting part is in PLAYING with WOKE set, and a QUIET bus with no hold-off begins
to wake with every engine ABSENT (R133, R134, R159). In PLAYING the count is 0 where the hush timer's expiry is due
at the millisecond tick that stands (R158, notes/assumptions/28.md), and any other part is left as it is. -/
def State.roused (s : State) : State :=
  if s.act.activity = .resting then
    { s with
      act := { s.act with activity := .playing, hush := 0 }
      vbc :=
        if s.vbc.bus = .quiet ∧ s.vbc.holdOff = none then
          { s.vbc with
            bus := .waking, wakeTimer := some s.vbc.wakeTime
            engines := Vector.replicate 4 { present := false, capacity := 0, absenceRun := 0 } }
        else s.vbc
      cpt := (s.setNotice .woke).cpt }
  else if s.act.activity = .playing ∧ s.quiet = true ∧ 1 ≤ s.act.hushTime ∧ s.act.hushTime * 1000 ≤ s.act.hush ∧
      s.openTick.any (·.millisecond) = true then
    { s with act := { s.act with hush := 0 } }
  else s

/-- A scan outside SETUP that accepts the press of treble button `i` and nothing else: the button is not latent, has
no hold, finds room in the Hold Table and plays pitch `p` (R6, R51, R56). -/
structure State.pressesAlone (s : State) (buttons : BitVec 96) (tabs : BitVec 12) (chins : BitVec 4) (i : Fin 96)
    (p : Nat) : Prop where
  running : s.heldInReset = false ∧ s.act.activity ≠ .setup
  alone : s.acceptsButtons buttons (BitVec.twoPow 96 i.val) tabs chins
  pressed : s.ksu.buttons.state.getLsbD i.val = false ∧ s.ksu.latentButtons.getLsbD i.val = false
  room : s.hold? (.treble i) = none ∧ s.htm.holds.length < 64
  plays : ∃ offset, s.htm.map[i] = some offset ∧ (p : Int) = s.htm.trebleBase + offset + 12 * s.ksu.octave ∧ p ≤ 127

/-- A voice entry after its level is decided afresh for a slot (R114, R115). -/
def State.relevelled (s : State) (v : Fin 128) (x : Slot) : Voice :=
  { s.voice v with
    target := s.levelOf x, dirty := levelDirty s.exu.threshold (s.levelOf x) (s.voice v).lastSent }

/-- A voice entry after the levels are decided afresh as the part stands in `t`: that of a SOUNDING voice, with its
slot given, has the slot's target level and the flag of R115 (R114). -/
def Voice.levelledIn (t : State) (slot : Option Slot) (y : Voice) : Voice :=
  match slot with
  | some x =>
    { y with target := t.levelOf x, dirty := levelDirty t.exu.threshold (t.levelOf x) y.lastSent }
  | none => y

/-- The Waiting List's first entry whose engine mask allows a voice's engine, for a voice that is available (R103). -/
def State.firstWaiting (s : State) (v : Fin 128) : Option SlotRef :=
  if s.available v then
    s.val.waiting.find? fun r => (s.slot? r).any fun y => y.layer.engineMask.getLsbD (engineOf v).val
  else none

/-- The start contents of a slot (R93). -/
def Slot.contents (y : Slot) : StartContents := { timbre := y.layer.timbre, pitch := y.soundingPitch.getD 0 }

/-- A voice entry after the grant of the voice to a slot (R90, R93). -/
def State.grantedVoice (s : State) (v : Fin 128) (r : SlotRef) (y : Slot) : Voice :=
  { s.voice v with
    state := .sounding, owner := some r, side := r.key.side, tag := (s.voice v).tag + 1, pending := .start
    eligibleFrom := none, target := s.levelOf y, startStamp := s.val.stamp, tail := .absent }

/-- The samples of a character sent without noise: a low start bit, the data bits, the parity bit and the stop bit, 16
samples to each (R19). -/
def characterLine (b : Byte) (parity stop : Bool) : BitVec 176 :=
  BitVec.ofFnLE fun i =>
    let k := i.val / 16
    if k = 0 then false else if k ≤ 8 then b.getLsbD (k - 1) else if k = 9 then parity else stop

/-- The even parity bit of a byte: it makes the count of ones even (section 2.2). -/
def evenParity (b : Byte) : Bool := ((List.range 8).countP fun i => b.getLsbD i) % 2 == 1

/-- The bytes of a downstream frame of a kind with an echo field: 41 bytes with their check (R121, R175, R176). -/
def isFrame (kind : Byte) (echo : BitVec 48) (bytes : List Byte) : Prop :=
  bytes.length = 41 ∧ bytes.head? = some kind ∧ natOfBytes ((bytes.drop 1).take 6) = echo.toNat ∧
    natOfBytes (bytes.drop 39) = ((bytes.take 39).map BitVec.toNat).sum % 65536

/-- The command area of a downstream frame (Table 12-2). -/
def areaOf (bytes : List Byte) : List Byte := (bytes.drop 7).take 32

/-! ## Ranges -/

/-- A layer's fields within the ranges of R144. -/
structure Layer.inRange (l : Layer) : Prop where
  timbre : l.timbre ≤ 511
  transpose : -24 ≤ l.transpose ∧ l.transpose ≤ 24
  curve : l.curve ≤ 15
  volume : l.volume ≤ 127
  tilt : -8 ≤ l.tilt ∧ l.tilt ≤ 7
  priority : l.priority ≤ 7
  engineMask : l.engineMask ≠ 0
  tailLimit : 10 ≤ l.tailLimit ∧ l.tailLimit ≤ 5000

/-- A layer list as R144 allows it. -/
def layersInRange (l : List Layer) : Prop := l.length ≤ 4 ∧ ∀ x ∈ l, x.inRange

/-- The settings within the ranges their rules clamp them to (R18, R24, R48, R54, R98, R116, R141, R144, R158). -/
structure State.SettingsInRange (s : State) : Prop where
  debounce : 1 ≤ s.ksu.debounceCount ∧ s.ksu.debounceCount ≤ 8
  settle : 5 ≤ s.ksu.settleTime ∧ s.ksu.settleTime ≤ 100
  octave : -2 ≤ s.ksu.octave ∧ s.ksu.octave ≤ 2
  recalls : ∀ n : Fin 4, s.ksu.switches[n].registration ≤ 31
  trim : -2 ≤ s.blr.trim ∧ s.blr.trim ≤ 2
  lossTime : 8 ≤ s.blr.lossTime ∧ s.blr.lossTime ≤ 255
  offset : -256 ≤ s.bwu.offset ∧ s.bwu.offset ≤ 255
  deadBand : s.bwu.deadBand ≤ 255
  restCount : 1 ≤ s.bwu.restCount ∧ s.bwu.restCount ≤ 32
  window : 1 ≤ s.bwu.window ∧ s.bwu.window ≤ 255
  shift : s.bwu.shift ≤ 7
  map : ∀ i : Fin 96, ∀ x ∈ s.htm.map[i], x ≤ 95
  trebleBase : s.htm.trebleBase ≤ 127
  bassBase : s.htm.bassBase ≤ 116
  chordBase : s.htm.chordBase ≤ 116
  minSounding : s.val.minSounding ≤ 16
  threshold : 1 ≤ s.exu.threshold ∧ s.exu.threshold ≤ 8
  expected : s.vbc.expected ≠ 0
  wakeTime : 10 ≤ s.vbc.wakeTime ∧ s.vbc.wakeTime ≤ 1000
  hushTime : s.act.hushTime ≤ 60
  table : ∀ n : Fin 32, layersInRange s.rsa.table[n].treble.layers ∧ layersInRange s.rsa.table[n].bass.layers
  copies : ∀ side, layersInRange (s.current side).layers

/-- The counts and levels within the ranges that the chapters give them (R3, R22, R37, R41, R42, R109, R113, R135,
R157). -/
structure State.CountsInRange (s : State) : Prop where
  disagree : (∀ i : Fin 96, s.ksu.buttons.counts[i] ≤ 8) ∧ (∀ i : Fin 12, s.ksu.tabs.counts[i] ≤ 8) ∧
    ∀ i : Fin 4, s.ksu.chins.counts[i] ≤ 8
  errors : s.blr.errors ≤ 255
  runs : s.bwu.restRun ≤ 255 ∧ s.bwu.restAge ≤ 255 ∧ s.bwu.faultRun ≤ 255
  smoothed : s.bwu.smoothed ≤ 16368
  points : ∀ c : Fin 16, ∀ i : Fin 9, s.exu.curves[c][i] ≤ 127
  overrides : ∀ r ∈ s.sdt.records, ∀ x ∈ r.slots, ∀ level ∈ x.override, level ≤ 127
  levels : ∀ v, (s.voice v).target ≤ 127 ∧ (s.voice v).lastSent ≤ 127
  attempts : s.vbc.wakeAttempts ≤ 255
  hush : s.act.hush ≤ 60000

/-! ## The bus and the activity states -/

/-- What each bus state allows (8.5, R121, R129, R132 to R137), with the hush timer of R155 and R157. -/
structure State.BusLaws (s : State) : Prop where
  /-- An engine is PRESENT in WAKING and RUNNING only. -/
  present : ∀ e, (s.engine e).present = true → s.vbc.bus = .waking ∨ s.vbc.bus = .running
  /-- A PRESENT engine has a capacity of 8..32 and an absence run below 8; an ABSENT one has neither. -/
  engines : ∀ e, if (s.engine e).present then 8 ≤ (s.engine e).capacity ∧ (s.engine e).capacity ≤ 32 ∧
    (s.engine e).absenceRun < 8 else s.engine e = Engine.absent
  /-- The bus is WAKING or RUNNING in PLAYING only. -/
  playing : s.vbc.bus = .waking ∨ s.vbc.bus = .running → s.act.activity = .playing
  wakeTimer : s.vbc.wakeTimer.isSome = true ↔ s.vbc.bus = .waking
  closeTimer : s.vbc.closeTimer.isSome = true ↔ s.vbc.bus = .closing
  holdOff : s.vbc.holdOff.isSome = true → s.vbc.bus = .quiet
  /-- The CLEAR-pending set names PRESENT engines of a RUNNING bus. -/
  clears : ∀ e : Fin 4, s.vbc.clearPending.getLsbD e.val = true → s.vbc.bus = .running ∧ (s.engine e).present = true
  /-- In HELD and QUIET the pair rests, the echo buffer is idle and no window is open. -/
  rests : s.vbc.bus = .held ∨ s.vbc.bus = .quiet →
    s.vbc.answer = .closed ∧ s.vbc.echo = idleField ∧ s.vbc.downstream = []
  /-- Outside PLAYING, and while a quiet condition fails, the hush timer is 0. -/
  hush : s.act.activity ≠ .playing ∨ s.quiet = false → s.act.hush = 0

/-! ## The tables -/

/-- The Send List holds exactly the voices with a pending command, each once, with start contents exactly where a
START is pending (R123). -/
structure State.SendListLaw (s : State) : Prop where
  once : (s.vbc.sendList.map (·.voice)).Nodup
  pending : ∀ v, v ∈ s.vbc.sendList.map (·.voice) ↔ (s.voice v).pending ≠ .none
  contents : ∀ e ∈ s.vbc.sendList,
    (e.start.isSome = true ↔ (s.voice e.voice).pending = .start ∨ (s.voice e.voice).pending = .startRelease)

/-- What each voice state allows in the voice entry (Table 6-2, R97 to R101). -/
def Voice.lawful (x : Voice) : Prop :=
  (x.owner.isSome = true ↔ x.state = .sounding) ∧
    match x.state with
    | .free => x.pending = .none ∧ x.tail = .absent ∧ x.eligibleFrom = none
    | .sounding => (x.pending = .none ∨ x.pending = .start ∨ x.pending = .accent) ∧ x.tail = .absent
    | .releasing =>
      match x.tail with
      | .absent => False
      | .length _ => x.pending = .release ∨ x.pending = .startRelease
      | .moment _ => x.pending = .none
    | .cutting => x.pending = .cut ∧ x.tail = .absent ∧ x.eligibleFrom = none

/-- The Voice Map against the engines (R89, R91). -/
structure State.VoiceLaws (s : State) : Prop where
  lawful : ∀ v, (s.voice v).lawful
  /-- A voice that is not FREE is available; so every voice of an engine that is not PRESENT is FREE. -/
  inUse : ∀ v, (s.voice v).state ≠ .free → s.available v = true
  /-- In RUNNING the joined capacity is the declared one; otherwise no engine is joined. -/
  joined : ∀ e : Fin 4, s.val.joined[e] = if s.vbc.bus = .running then (s.engine e).capacity else 0

/-- The Sounding Table against the Voice Map and the Waiting List (R66, R67, R70, R71, R89, R103, R104). -/
structure State.TableLaws (s : State) : Prop where
  /-- The records stand in enumeration order, so no two have the same key. -/
  order : s.sdt.records.Pairwise fun x y => x.key.place < y.key.place
  count : s.sdt.records.length ≤ recordLimit
  pitch : ∀ x ∈ s.sdt.records, x.key.pitch ≤ 127
  holders : ∀ x ∈ s.sdt.records,
    x.holders.Nodup ∧ x.holders.length ≤ holderLimit ∧ ∀ b ∈ x.holders, b.side = x.key.side
  slots : ∀ x ∈ s.sdt.records, x.slots.length ≤ 4
  sounding : ∀ r x, s.slot? r = some x → x.soundingPitch = soundingPitch r.key.pitch x.layer.transpose ∧
    (x.status = .skipped ↔ x.soundingPitch = none)
  /-- A slot is VOICED with a voice exactly when the voice names it as its owner. -/
  voiced : ∀ r v, (s.slot? r).map (·.status) = some (.voiced v) ↔ (s.voice v).owner = some r
  side : ∀ v r, (s.voice v).owner = some r → (s.voice v).side = r.key.side
  /-- The Waiting List holds exactly the WAITING and STARVED slots, each once. -/
  waitingOnce : s.val.waiting.Nodup
  waiting : ∀ r, r ∈ s.val.waiting ↔
    (s.slot? r).map (·.status) = some .waiting ∨ (s.slot? r).map (·.status) = some .starved
  /-- In RUNNING no slot waits while a FREE available voice of its engine mask stands by. -/
  served : s.vbc.bus = .running → ∀ r ∈ s.val.waiting, ∀ v, s.available v = true → (s.voice v).state = .free →
    (s.slotMask r).getLsbD (engineOf v).val = false

/-- The Hold Table against the Sounding Table (R55, R63, R155). -/
structure State.HoldLaws (s : State) : Prop where
  once : (s.htm.holds.map (·.button)).Nodup
  count : s.htm.holds.length ≤ holdLimit
  pitches : ∀ h ∈ s.htm.holds, h.pitches.Nodup ∧ h.pitches.length ≤ 3
  /-- Every pitch of a hold names a record that lists the hold's button, and every holder has such a hold. -/
  agree : ∀ b side pitch, (∃ h ∈ s.htm.holds, h.button = b ∧ b.side = side ∧ pitch ∈ h.pitches) ↔
    ∃ x ∈ s.sdt.records, x.key = { side := side, pitch := pitch } ∧ b ∈ x.holders
  /-- A record with no holders is kept by its side's sustain. -/
  sustained : ∀ x ∈ s.sdt.records, x.holders = [] → s.sustain x.key.side = true
  /-- In SETUP nothing is held, nothing sounds and sustain is OFF. -/
  setup : s.act.activity = .setup → s.htm.holds = [] ∧ s.sdt.records = [] ∧ s.htm.trebleSustain = false ∧
    s.htm.bassSustain = false

/-- All the laws together. -/
structure State.Lawful (s : State) : Prop where
  settings : s.SettingsInRange
  bus : s.BusLaws
  sendList : s.SendListLaw
  voices : s.VoiceLaws
  table : s.TableLaws
  holds : s.HoldLaws

end Machine

end Sys2Proof
end

