-- ==== Sys2Proof/WellFormed.lean ====
section
/-! DEFINITION. Which commands are well formed: what the arrival of each presupposes of its own operands. -/

namespace Sys2Proof

/-- The well-formed commands. A character's samples begin with the low sample that began it (R19); an accepted frame
has its marker and check (R21, R22); an unknown request's kind names no request and a malformed one's kind needs more
bytes than it got (R165). Every other operand is admitted whatever its bits. -/
def Instr.wf : Instr → Bool
  | .bassCharacter line => !line.getLsbD 0
  | .acceptedFrame frame => goodFrame frame
  | .unknownRequest kind => (argumentLength kind).isNone
  | .malformedRequest kind received => (argumentLength kind).any (received < ·)
  | _ => true

end Sys2Proof
end

