-- ==== Sys2Proof/Certificates/Slice0/Obligations.lean ====
section
/-! DEFINITION. The statements for the provers. A statement that says `log <n>` rests on the model's own choice, said in
notes/assumptions/<n>.md. -/

open Sys2Proof Sys2Proof.Machine Host

/-! ## The machine as a whole -/

/-- The queue's front command is the one a step runs, on the state with the queue's rest (log 21, 25), and the part
never stops: every step answers a next state. -/
def Obligations.StepRunsTheFrontCommand : Prop :=
  (∀ (c : Instr) (rest : List Instr) (s : State),
    s.pending = c :: rest → step s = exec c { s with pending := rest }) ∧ ∀ s, Safe s

/-- A step on an empty queue takes a frame tick whole, and none while the part is held: the next tick, or what is left
of one that a command began (R1, R161, log 3, 6). The tick moves no stored setting, map, curve or registration. A
frame or an apply pass visit that is commanded takes a frame tick of its own, a WAKE frame a millisecond tick. Where
the tick that stands was taken whole, the next begins, and one that is a millisecond tick counts the timers; a WAKE
frame lets whole ticks pass up to its own. Where the tick that stands no longer owes what is commanded, it is first
taken to its end as a step on an empty queue takes it, so that no visit, frame or expiry of it is lost (R1, log 6). -/
def Obligations.EmptyQueueLetsOneFrameTickPass : Prop :=
  (∀ s : State, s.pending = [] → step s = .next s.tick ∧
    (s.heldInReset = true → s.tick = s) ∧
    (s.heldInReset = false → ∃ t, step s = .next t ∧
      t.frameTicks = s.frameTicks + (if s.openTick = none then 1 else 0) ∧ t.openTick = none ∧ t.pending = [] ∧
      t.heldInReset = false ∧ t.exu = s.exu ∧ t.htm.map = s.htm.map ∧ t.rsa.table = s.rsa.table ∧
      t.cpt.enabled = s.cpt.enabled ∧ t.cpt.response = s.cpt.response ∧ t.cpt.busy = s.cpt.busy)) ∧
  (∀ s : State, s.heldInReset = false → s.openTick = none →
    let count : GroupState → GroupState := fun g => match g with
      | .armed => .armed
      | .settling left => .settling (left - 1)
    let begun := fun u : State =>
      u.frameTicks = s.frameTicks + 1 ∧
      u.openTick = some
        { bus := s.vbc.bus, frame := true, visits := true, millisecond := decide ((s.frameTicks + 1) % 4 = 0) } ∧
      if (s.frameTicks + 1) % 4 = 0 then
        u.ksu = { s.ksu with group := { s.ksu.group with state := count s.ksu.group.state } } ∧
        u.blr = { s.blr with
          lossTimer := s.blr.lossTimer + 1, group := { s.blr.group with state := count s.blr.group.state } } ∧
        u.vbc = { s.vbc with
          wakeTimer := s.vbc.wakeTimer.map (· - 1), holdOff := s.vbc.holdOff.map (· - 1)
          closeTimer := s.vbc.closeTimer.map (· - 1) } ∧
        u.act = { s.act with hush :=
          if s.act.activity = .playing then (if s.quiet then min 60000 (s.act.hush + 1) else 0) else s.act.hush } ∧
        { u with frameTicks := 0, openTick := none, ksu := s.ksu, blr := s.blr, vbc := s.vbc, act := s.act } =
          { s with frameTicks := 0, openTick := none }
      else u = { s with frameTicks := s.frameTicks + 1, openTick := u.openTick }
    (s.vbc.bus = .running → ∃ u, begun u ∧ exec .normalFrame s = exec .normalFrame u) ∧
    (s.vbc.bus = .closing → ∃ u, begun u ∧ exec .closeFrame s = exec .closeFrame u) ∧
    (s.rsa.pass ≠ none → ∃ u, begun u ∧ exec .applyPassTick s = exec .applyPassTick u) ∧
    (s.vbc.bus = .waking → s.frameTicks % 4 = 3 → ∃ u, begun u ∧ exec .wakeFrame s = exec .wakeFrame u) ∧
    (s.vbc.bus = .waking → s.frameTicks % 4 ≠ 3 → s.tick.vbc.bus = .waking →
      exec .wakeFrame s = exec .wakeFrame s.tick)) ∧
  ∀ (s : State) (o : OpenTick), s.heldInReset = false → s.openTick = some o →
    (s.vbc.bus = .running → ¬ (o.frame = true ∧ o.bus = .running) → s.tick.vbc.bus = .running →
      exec .normalFrame s = exec .normalFrame s.tick) ∧
    (s.vbc.bus = .closing → ¬ (o.frame = true ∧ o.bus = .closing) → s.tick.vbc.bus = .closing →
      exec .closeFrame s = exec .closeFrame s.tick) ∧
    (s.vbc.bus = .waking → ¬ (o.frame = true ∧ o.bus = .waking ∧ s.frameTicks % 4 = 0) → s.tick.vbc.bus = .waking →
      exec .wakeFrame s = exec .wakeFrame s.tick) ∧
    (s.rsa.pass ≠ none → o.visits = false → s.tick.rsa.pass ≠ none →
      exec .applyPassTick s = exec .applyPassTick s.tick)

/-- The activity state changes only as Table 10-1 gives: to SETUP by a reset, from SETUP by START alone, from
PLAYING to RESTING by the hush expiry alone, and from RESTING to PLAYING by WAKE or a wake cause of R159: in a scan,
whose tab changes the treble group sees one by one (log 16), or in a frame that is handled, be it at ACCEPTED_FRAME
or, where one that is complete waits, before the next frame completes or a PUT_SETUP writes (log 10). A command that
is taken at a tick of its own may bring them in taking the tick that stands to its end: the hush expiry of a
millisecond tick, and the frame that waits (log 6). Each wake cause does wake a resting part and sets WOKE. -/
def Obligations.ActivityMovesOnlyAsTable101 : Prop :=
  (∀ (c : Instr) (s t : State), exec c s = .next t → t.act.activity ≠ s.act.activity →
    match s.act.activity, t.act.activity with
    | _, .setup => c = .coldReset ∨ c = .warmReset
    | .setup, _ => c = .start
    | .playing, _ => c = .hushExpiry ∨ c.takesTick = true ∧ ∃ o, s.openTick = some o ∧ o.millisecond = true
    | .resting, _ => c = .wake ∨ (∃ b p n, c = .scanCompletion b p n ∧ s.scanWakes b p n) ∨
        ∃ f, s.frameWakes f ∧ (s.blr.complete = none ∧ c = .acceptedFrame f ∨
          s.blr.complete = some f ∧ ((∃ g, c = .acceptedFrame g) ∨ (∃ line, c = .bassCharacter line) ∨
            (∃ x, c = .putSetup x) ∨ c.takesTick = true))) ∧
  ∀ s : State, s.heldInReset = false → s.act.activity = .resting →
    (∀ b p n, s.scanWakes b p n →
      ∃ t, exec (.scanCompletion b p n) s = .next t ∧ t.act.activity = .playing ∧ t.noticeSet .woke = true) ∧
    ∀ f, s.blr.complete = none → s.frameWakes f →
      ∃ t, exec (.acceptedFrame f) s = .next t ∧ t.act.activity = .playing ∧ t.noticeSet .woke = true

/-- No command but CLEAR_NOTICES and the resets clears a notice flag. -/
def Obligations.NoticesStayUntilCleared : Prop :=
  ∀ (c : Instr) (s t : State), (∀ mask, c ≠ .clearNotices mask) → c ≠ .coldReset → c ≠ .warmReset →
    exec c s = .next t → ∀ n, s.noticeSet n = true → t.noticeSet n = true

/-- The stored settings, maps, curves and registrations are written by their own requests and by a cold reset alone; a
reference pattern is written by its side's settle expiry too (R11), which a command that is taken at a tick of its own
may bring in taking a millisecond tick that stands to its end (log 6). The octave shift and the calibration offset
have causes of their own (R16, R46) and are left out. -/
def Obligations.StoredSettingsChangeOnlyByTheirRequests : Prop :=
  ∀ (c : Instr) (s t : State), exec c s = .next t → c ≠ .coldReset →
    ((∀ x, c ≠ .putSetup x) → t.ksu.debounceCount = s.ksu.debounceCount ∧ t.ksu.settleTime = s.ksu.settleTime ∧
      t.ksu.switches = s.ksu.switches ∧ t.ksu.group.mask = s.ksu.group.mask ∧ t.blr.group.mask = s.blr.group.mask ∧
      t.blr.lineSelect = s.blr.lineSelect ∧ t.blr.trim = s.blr.trim ∧ t.blr.lossTime = s.blr.lossTime ∧
      t.bwu.deadBand = s.bwu.deadBand ∧ t.bwu.restCount = s.bwu.restCount ∧ t.bwu.window = s.bwu.window ∧
      t.bwu.shift = s.bwu.shift ∧ t.val.minSounding = s.val.minSounding ∧ t.exu.threshold = s.exu.threshold ∧
      t.vbc.expected = s.vbc.expected ∧ t.vbc.wakeTime = s.vbc.wakeTime ∧ t.act.hushTime = s.act.hushTime) ∧
    (let ends := c.takesTick = true ∧ ∃ o, s.openTick = some o ∧ o.millisecond = true
     (t.ksu.group.reference ≠ s.ksu.group.reference → (∃ x, c = .putSetup x) ∨ c = .settleExpiry .treble ∨ ends) ∧
     (t.blr.group.reference ≠ s.blr.group.reference → (∃ x, c = .putSetup x) ∨ c = .settleExpiry .bass ∨ ends)) ∧
    ((∀ x a b d, c ≠ .putMap x a b d) → t.htm.map = s.htm.map ∧ t.htm.trebleBase = s.htm.trebleBase ∧
      t.htm.bassBase = s.htm.bassBase ∧ t.htm.chordBase = s.htm.chordBase) ∧
    ((∀ n y, c ≠ .putCurve n y) → t.exu.curves = s.exu.curves) ∧
    ((∀ n x y, c ≠ .putReg n x y) → t.rsa.table = s.rsa.table) ∧
    ((∀ m, c ≠ .enable m) → t.cpt.enabled = s.cpt.enabled)

/-! ## The laws that every step keeps -/

/-- The settings hold at every step the ranges their rules clamp them to. -/
def Obligations.EveryStepKeepsSettingsInRange : Prop :=
  ∀ s t : State, s.SettingsInRange → step s = .next t → t.SettingsInRange

/-- The counts and levels stay in their ranges: S within 0..16368, levels within 0..127, saturating counts within
theirs. -/
def Obligations.EveryStepKeepsCountsInRange : Prop :=
  ∀ s t : State, s.SettingsInRange → s.CountsInRange → step s = .next t → t.SettingsInRange ∧ t.CountsInRange

/-- Every step keeps what the bus states allow, and the hush timer at 0 outside PLAYING and while not quiet. -/
def Obligations.EveryStepKeepsTheBusLaws : Prop := ∀ s t : State, s.BusLaws → step s = .next t → t.BusLaws

/-- Every step keeps all the laws: holds and records answer for each other, the Send List holds exactly the voices
with a pending command, a voice is SOUNDING exactly for the slot VOICED with it, and the Waiting List holds exactly
the slots that wait. -/
def Obligations.EveryStepKeepsTheLawsOfTheTables : Prop := ∀ s t : State, s.Lawful → step s = .next t → t.Lawful

/-- The part right after it left a cold reset is lawful. -/
def Obligations.ResetIsLawful : Prop := State.reset.Lawful ∧ State.reset.CountsInRange

/-! ## Resets -/

/-- COLD_RESET holds the part with every block at the values of its reset table (Tables 1-2, 2-2, 3-3, 4-3, 5-5, 6-6,
7-4, 8-6, 9-3, 10-2, 11-4), and LEAVING_COLD_RESET then lets it start, its ticks counting from 0 (R161); a part that
is not held it leaves as it is (log 1). While the part is held the row drives are idle and the attention line is
released, and no other command does anything (R161, log 8); the rows are driven otherwise (R2). -/
def Obligations.ColdResetHoldsThePartAtItsTables : Prop :=
  (∀ (c : Instr) (s : State), s.heldInReset = true → c ≠ .coldReset → c ≠ .leavingColdReset → exec c s = .next s) ∧
  (∀ s : State, (s.rowDrives = .idle ↔ s.heldInReset = true) ∧ (s.heldInReset = true → s.attention = false)) ∧
  (∀ s : State, s.heldInReset = false → exec .leavingColdReset s = .next s) ∧
  ∀ s : State, ∃ t, exec .coldReset s = .next t ∧ t.heldInReset = true ∧ t.attention = false ∧
    exec .leavingColdReset t = .next { t with heldInReset := false, frameTicks := 0, openTick := none } ∧
    t.frameTicks = 0 ∧ t.openTick = none ∧ t.pending = s.pending ∧
    (t.ksu.buttons = { state := 0, counts := Vector.replicate 96 0 } ∧
      t.ksu.tabs = { state := 0, counts := Vector.replicate 12 0 } ∧
      t.ksu.chins = { state := 0, counts := Vector.replicate 4 0 } ∧ t.ksu.latentButtons = 0 ∧ t.ksu.latentChins = 0 ∧
      t.ksu.debounceCount = 3 ∧ t.ksu.settleTime = 30 ∧
      t.ksu.group = { mask := 0xFFF, reference := 0, state := .armed } ∧
      (∀ n : Fin 4, t.ksu.switches[n] =
        { edge := .press, action := .none, side := .both, registration := 0, halves := .both }) ∧ t.ksu.octave = 0) ∧
    (t.blr.lineSelect = .auto ∧ t.blr.conductor = .main ∧ t.blr.trim = 0 ∧ t.blr.lossTime = 40 ∧
      t.blr.receiver = .awaitingIdle ∧ t.blr.assembler = .seeking ∧ t.blr.link = .down ∧ t.blr.lossTimer = 0 ∧
      t.blr.image = 0 ∧ t.blr.latent = 0 ∧ t.blr.errors = 0 ∧ t.blr.tabImage = 0 ∧
      t.blr.group = { mask := 0x1F, reference := 0, state := .armed }) ∧
    t.bwu = { offset := 0, deadBand := 24, restCount := 8, window := 60, shift := 2, direction := .rest,
              departed := .none, restRun := 0, restAge := 0, smoothed := 0, reversals := 0, faultRun := 0,
              faultDeclared := false, calibration := .idle } ∧
    ((∀ i : Fin 96, t.htm.map[i] = some i.val) ∧ t.htm.trebleBase = 24 ∧ t.htm.bassBase = 40 ∧ t.htm.chordBase = 52 ∧
      t.htm.holds = [] ∧ t.htm.trebleSustain = false ∧ t.htm.bassSustain = false) ∧
    t.sdt = { records := [], serial := 0 } ∧
    ((∀ v, t.voice v =
        { state := .free, owner := none, side := .treble, tag := 0, pending := .none, eligibleFrom := none,
          lastSent := 0, target := 0, dirty := false, startStamp := 0, releaseStamp := 0, tail := .absent }) ∧
      t.val.waiting = [] ∧ t.val.stamp = 0 ∧ (∀ e : Fin 4, t.val.joined[e] = 0) ∧ t.val.minSounding = 2) ∧
    ((∀ c : Fin 16, t.exu.curves[c] = #v[0, 16, 32, 48, 64, 80, 96, 112, 127]) ∧ t.exu.threshold = 2) ∧
    (t.vbc.bus = .held ∧ t.vbc.destination = .quiet ∧
      (∀ e, t.engine e = { present := false, capacity := 0, absenceRun := 0 }) ∧ t.vbc.expected = 15 ∧
      t.vbc.wakeTime = 100 ∧ t.vbc.wakeTimer = none ∧ t.vbc.holdOff = none ∧ t.vbc.closeTimer = none ∧
      t.vbc.wakeAttempts = 0 ∧ t.vbc.sendList = [] ∧ t.vbc.clearPending = 0 ∧ t.vbc.rotation = 0 ∧
      t.vbc.echo = 0xFFFFFFFFFFFF ∧ t.vbc.downstream = []) ∧
    ((∀ n : Fin 32, t.rsa.table[n].treble.layers = t.rsa.treble.layers ∧ t.rsa.table[n].treble.pattern = none ∧
        t.rsa.table[n].treble.mode = .carry ∧ t.rsa.table[n].bass.layers = t.rsa.bass.layers ∧
        t.rsa.table[n].bass.pattern = none ∧ t.rsa.table[n].bass.mode = .carry) ∧
      (∀ side, t.current side =
        { layers := [{ timbre := 0, transpose := 0, curve := 0, volume := 100, tilt := 0, priority := 4,
                       engineMask := 15, tailLimit := 2000, late := true, accent := false }], entry := 0 }) ∧
      t.rsa.generation = 0 ∧ t.rsa.pass = none) ∧
    t.act = { activity := .setup, hush := 0, hushTime := 20 } ∧
    (t.cpt.buffer = [] ∧ t.cpt.response = { status := .ok, payload := [] } ∧ t.cpt.busy = false ∧ t.cpt.notices = 0 ∧
      t.cpt.enabled = 0)

/-- WARM_RESET answers OK and sets every block to its warm reset values: what is stored is kept, what belongs to the
performance is emptied (R162 and the reset tables). -/
def Obligations.WarmResetKeepsWhatIsStored : Prop :=
  ∀ s : State, s.ready → ∃ t, exec .warmReset s = .next t ∧
    t.heldInReset = false ∧ t.frameTicks = 0 ∧ t.openTick = none ∧ t.attention = false ∧
    t.ksu = { State.reset.ksu with
      debounceCount := s.ksu.debounceCount, settleTime := s.ksu.settleTime, switches := s.ksu.switches
      group := { mask := s.ksu.group.mask, reference := s.ksu.group.reference, state := .armed } } ∧
    t.blr = { State.reset.blr with
      lineSelect := s.blr.lineSelect, conductor := (if s.blr.lineSelect = .spare then .spare else .main)
      trim := s.blr.trim, lossTime := s.blr.lossTime
      group := { mask := s.blr.group.mask, reference := s.blr.group.reference, state := .armed } } ∧
    t.bwu = { State.reset.bwu with
      offset := s.bwu.offset, deadBand := s.bwu.deadBand, restCount := s.bwu.restCount, window := s.bwu.window
      shift := s.bwu.shift } ∧
    t.htm = { s.htm with holds := [], trebleSustain := false, bassSustain := false } ∧
    t.sdt = { records := [], serial := 0 } ∧
    t.val = { State.reset.val with minSounding := s.val.minSounding } ∧ t.exu = s.exu ∧
    t.vbc = { State.reset.vbc with expected := s.vbc.expected, wakeTime := s.vbc.wakeTime } ∧
    t.rsa = { s.rsa with generation := 0, pass := none } ∧
    t.act = { activity := .setup, hush := 0, hushTime := s.act.hushTime } ∧
    t.cpt = { buffer := [], response := { status := .ok, payload := [] }, busy := true, notices := 0
              enabled := s.cpt.enabled, clockedOut := s.cpt.response.status.code :: s.cpt.response.payload }

/-! ## The controller port -/

/-- What a request's bytes say, the port reads back: the bytes of Table 12-5 for any request, whatever bytes follow
its arguments, decode to that request. A request cut short by chip select reads as malformed, a kind byte that names
no request as unknown whatever follows, and a transaction without a whole byte as no request (R165, R177). On the line
each byte goes most significant bit first, and the bits of a byte left incomplete at the rise of chip select are
discarded, so that the transaction of a request's bits is that request, and one without a whole byte changes nothing
(R163). -/
def Obligations.RequestBytesDecodeToTheRequest : Prop :=
  (∀ (c : Instr) (bytes extra : List Byte),
    encodeRequest c = some bytes → decodeTransaction (bytes ++ extra) = some c) ∧
  (∀ (c : Instr) (kind : Byte) (args : List Byte) (n : Nat), encodeRequest c = some (kind :: args) → n < args.length →
    decodeTransaction (kind :: args.take n) = some (.malformedRequest kind n)) ∧
  (∀ (kind : Byte) (args : List Byte), 0x1A ≤ kind.toNat →
    decodeTransaction (kind :: args) = some (.unknownRequest kind)) ∧
  decodeTransaction [] = none ∧
  (∀ b : Byte, byteBits b = [b.getLsbD 7, b.getLsbD 6, b.getLsbD 5, b.getLsbD 4, b.getLsbD 3, b.getLsbD 2, b.getLsbD 1,
    b.getLsbD 0]) ∧
  (∀ (bytes : List Byte) (rest : List Bool), rest.length < 8 → receivedBytes (bytes.flatMap byteBits ++ rest) = bytes) ∧
  (∀ (s : State) (c : Instr) (bytes extra : List Byte) (rest : List Bool), encodeRequest c = some bytes →
    rest.length < 8 → s.transaction ((bytes ++ extra).flatMap byteBits ++ rest) = exec c s) ∧
  ∀ (s : State) (rest : List Bool), rest.length < 8 → s.transaction rest = .next s

/-- A request is taken when the busy window is closed: the response before it is delivered and its own opens the busy
window. A transaction begun in the busy window clocks out NOT_READY and fill, its request is discarded, and the
pending response and the window stay (log 12). The window's end closes it and changes nothing else (R164). The
data-out line carries those bytes most significant bit first while chip select is low, and is released while it is
high (R163). -/
def Obligations.RequestsAreTakenOneByOne : Prop :=
  (∀ (c : Instr) (s : State), c.isRequest = true → s.ready → ∃ t, exec c s = .next t ∧
    t.cpt.clockedOut = s.cpt.response.status.code :: s.cpt.response.payload ∧ t.cpt.busy = true ∧ t.cpt.buffer = [] ∧
    t.heldInReset = false ∧ t.pending = s.pending) ∧
  (∀ (c : Instr) (s : State), c.isRequest = true ∨ c = .earlyTransaction → s.heldInReset = false → s.cpt.busy = true →
    ∃ t, exec c s = .next t ∧ t = { s with cpt := { s.cpt with buffer := [], clockedOut := [0x05] } } ∧
      t.dataOut 0 = 0x05 ∧ ∀ n, 0 < n → t.dataOut n = 0xFF) ∧
  (∀ s : State, s.heldInReset = false →
    exec .busyWindowExpiry s = .next { s with cpt := { s.cpt with busy := false } }) ∧
  ∀ (c : Instr) (s t : State), c.isRequest = true → s.heldInReset = false → exec c s = .next t →
    s.dataOutLine none = none ∧
    ∀ n, s.dataOutLine (some n) = some ((t.dataOut (n / 8)).getLsbD (7 - n % 8))

/-- A request whose status is a refusal, or that is cut short or unknown, changes no state beyond the port's own
pairing (R165). -/
def Obligations.RefusedRequestsChangeNoState : Prop :=
  ∀ (c : Instr) (s t : State), c.isRequest = true → s.ready → exec c s = .next t →
    t.cpt.response.status ∈ [Status.noRecord, .badArg, .wrongState, .malformed, .unknown] →
    t = s.answered s { status := t.cpt.response.status, payload := [] }

/-- STATUS answers thirty bytes that report the part as it stands, the four voice counts making 128, and changes
nothing else (R166, Table 12-7). -/
def Obligations.StatusReportsThePart : Prop :=
  ∀ s : State, s.ready → s.CountsInRange → s.TableLaws → s.HoldLaws → s.SendListLaw → ∃ p : List Byte,
    exec .status s = .next (s.answered s { status := .ok, payload := p }) ∧ p.length = 30 ∧
    p[0]? = some s.act.activity.code ∧ p[1]? = some s.vbc.bus.code ∧
    (∀ e : Fin 4, (p.getD 2 0).getLsbD e.val = (s.engine e).present ∧
      p.getD (3 + e.val) 0 = BitVec.ofNat 8 (s.engine e).capacity) ∧
    p[7]? = some s.blr.link.code ∧ p[8]? = some s.blr.conductor.code ∧ p[9]? = some s.bwu.direction.code ∧
    natOfBytes ((p.drop 10).take 2) = s.bwu.smoothed ∧ natOfBytes ((p.drop 12).take 2) = s.bwu.reversals.toNat ∧
    (p.getD 14 0).toNat = s.htm.holds.length ∧ (p.getD 15 0).toNat = s.sdt.records.length ∧
    (p.getD 16 0).toNat = s.voiceCount .free ∧ (p.getD 17 0).toNat = s.voiceCount .sounding ∧
    (p.getD 18 0).toNat = s.voiceCount .releasing ∧ (p.getD 19 0).toNat = s.voiceCount .cutting ∧
    s.voiceCount .free + s.voiceCount .sounding + s.voiceCount .releasing + s.voiceCount .cutting = 128 ∧
    natOfBytes ((p.drop 20).take 2) = s.val.waiting.length ∧ (p.getD 22 0).toNat = s.vbc.sendList.length ∧
    (p.getD 23 0 = 0 ↔ s.rsa.pass = none) ∧
    (∀ x, s.rsa.pass = some x → (p.getD 23 0).getLsbD 0 = x.sides.has .treble ∧
      (p.getD 23 0).getLsbD 1 = x.sides.has .bass) ∧
    natOfBytes ((p.drop 24).take 2) = s.rsa.generation.toNat ∧ p[26]? = some (BitVec.ofNat 8 s.rsa.treble.entry) ∧
    p[27]? = some (BitVec.ofNat 8 s.rsa.bass.entry) ∧ (p.getD 28 0).toNat = s.blr.errors ∧
    (p.getD 29 0).toNat = s.vbc.wakeAttempts

/-- VOICE answers the twenty-nine bytes of the entry, or BAD_ARG for an id above 127, and changes nothing else; a flag
that is set and a field that is present read as 1 (log 30), and the bits above the tag and the value of an absent tail
deadline as 0 (log 22). (R107, Table 12-7.) -/
def Obligations.VoiceReportsTheEntry : Prop :=
  ∀ (s : State) (id : Byte), s.ready →
    (128 ≤ id.toNat → exec (.voice id) s = .next (s.answered s { status := .badArg, payload := [] })) ∧
    ∀ v : Fin 128, id.toNat = v.val → ∃ p : List Byte,
      exec (.voice id) s = .next (s.answered s { status := .ok, payload := p }) ∧ p.length = 29 ∧
      p[0]? = some (s.voice v).state.code ∧ p[1]? = some (if (s.voice v).owner.isSome then 1 else 0) ∧
      (∀ r, (s.voice v).owner = some r → p[2]? = some (sideCode r.key.side) ∧
        p[3]? = some (BitVec.ofNat 8 r.key.pitch) ∧ p[4]? = some (BitVec.ofNat 8 r.slot)) ∧
      ((s.voice v).owner = none → p[2]? = some 0 ∧ p[3]? = some 0 ∧ p[4]? = some 0) ∧
      p[5]? = some (sideCode (s.voice v).side) ∧ (p.getD 6 0).toNat = (s.voice v).tag.toNat ∧
      p[7]? = some (s.voice v).pending.code ∧ p[8]? = some (if (s.voice v).eligibleFrom.isSome then 1 else 0) ∧
      natOfBytes ((p.drop 9).take 4) = ((s.voice v).eligibleFrom.getD 0) % 2 ^ 32 ∧
      p[13]? = some (BitVec.ofNat 8 (s.voice v).lastSent) ∧ p[14]? = some (BitVec.ofNat 8 (s.voice v).target) ∧
      p[15]? = some (if (s.voice v).dirty then 1 else 0) ∧
      natOfBytes ((p.drop 16).take 4) = (s.voice v).startStamp.toNat ∧
      natOfBytes ((p.drop 20).take 4) = (s.voice v).releaseStamp.toNat ∧
      match (s.voice v).tail with
      | .absent => p[24]? = some 0 ∧ natOfBytes (p.drop 25) = 0
      | .length ms => p[24]? = some 1 ∧ natOfBytes (p.drop 25) = ms % 2 ^ 32
      | .moment m => p[24]? = some 2 ∧ natOfBytes (p.drop 25) = m % 2 ^ 32

/-- The requests that touch the port or a count alone: NOP, UNKNOWN_REQUEST and MALFORMED_REQUEST only answer;
NOTICES answers the 21 flags in three bytes, the three bits above them 0 (log 22), and clears none; CLEAR_NOTICES
clears the flags its mask names and no other; ENABLE replaces the enable set, and the attention line then follows;
CLEAR_COUNTS sets the frame error count to 0 (R22, R164, R165, R169, R170). -/
def Obligations.NoticeAndPlainRequestsDoWhatTheySay : Prop :=
  ∀ s : State, s.ready →
    exec .nop s = .next (s.answered s { status := .ok, payload := [] }) ∧
    (∀ kind, exec (.unknownRequest kind) s = .next (s.answered s { status := .unknown, payload := [] })) ∧
    (∀ kind n, exec (.malformedRequest kind n) s = .next (s.answered s { status := .malformed, payload := [] })) ∧
    (∃ p : List Byte, exec .notices s = .next (s.answered s { status := .ok, payload := p }) ∧ p.length = 3 ∧
      natOfBytes p = s.cpt.notices.toNat) ∧
    (∀ mask : BitVec 24, ∃ flags : BitVec 21,
      exec (.clearNotices mask) s =
        .next (s.answered { s with cpt := { s.cpt with notices := flags } } { status := .ok, payload := [] }) ∧
      ∀ i, i < 21 → flags.getLsbD i = (s.cpt.notices.getLsbD i && !mask.getLsbD i)) ∧
    (∀ mask : BitVec 24, ∃ t, exec (.enable mask) s = .next t ∧
      t = s.answered { s with cpt := { s.cpt with enabled := mask.setWidth 21 } } { status := .ok, payload := [] } ∧
      (t.attention = true ↔ ∃ i, i < 21 ∧ s.cpt.notices.getLsbD i = true ∧ mask.getLsbD i = true)) ∧
    exec .clearCounts s =
      .next (s.answered { s with blr := { s.blr with errors := 0 } } { status := .ok, payload := [] })

/-! ## What is written is read back -/

/-- GET_SETUP answers 44 bytes, and PUT_SETUP of those very bytes changes no setting and disturbs nothing (R167: a
value already held is a write of the same value). No bass frame waits to be handled here (log 10). -/
def Obligations.PutSetupOfGetSetupChangesNothing : Prop :=
  ∀ s : State, s.ready → s.SettingsInRange → s.blr.complete = none → ∃ p : List Byte,
    exec .getSetup s = .next (s.answered s { status := .ok, payload := p }) ∧ p.length = 44 ∧
    exec (.putSetup (BitVec.ofNat 352 (natOfBytes p))) s = .next (s.answered s { status := .ok, payload := [] })

/-- PUT_SETUP with a value outside a list is refused whole; otherwise it writes every setting, each clamped to its
range (R18, R24, R48, R98, R116, R141, R158, R167, R177), and nothing but the settings, the two tab groups and the
bass receiver. A tab group written with another mask or reference is ARMED and the other is not touched (R12). A line
select or trim written with another value abandons the reception uncounted; MAIN and SPARE set the conductor and AUTO
leaves it (R23, R24). A frame that completed before is handled first, as ACCEPTED_FRAME does (R23, log 10). -/
def Obligations.PutSetupWritesEverySetting : Prop :=
  ∀ (s : State) (x : BitVec 352), s.ready →
    let ok := (∀ n, n < 4 → (byteAt x (8 + 5 * n)).toNat ≤ 2 ∧ (byteAt x (9 + 5 * n)).toNat ≤ 7 ∧
      (byteAt x (10 + 5 * n)).toNat ≤ 2 ∧ (byteAt x (12 + 5 * n)).toNat ≤ 2) ∧ (byteAt x 29).toNat ≤ 2
    (¬ ok → exec (.putSetup x) s = .next (s.answered s { status := .badArg, payload := [] })) ∧
    (ok → ∀ f, s.blr.complete = some f → ∃ u, exec (.acceptedFrame f) s = .next u ∧ u.blr.complete = none ∧
      exec (.putSetup x) s = exec (.putSetup x) u) ∧
    (ok → s.blr.complete = none → ∃ t, exec (.putSetup x) s = .next t ∧
      t.cpt = s.cptAfter { status := .ok, payload := [] } ∧
      t.ksu.debounceCount = max 1 (min 8 (byteAt x 0).toNat) ∧ t.ksu.settleTime = max 5 (min 100 (byteAt x 1).toNat) ∧
      t.ksu.group.mask = x.extractLsb' 16 12 ∧ t.ksu.group.reference = x.extractLsb' 32 12 ∧
      t.blr.group.mask = x.extractLsb' 48 5 ∧ t.blr.group.reference = x.extractLsb' 56 5 ∧
      (t.ksu.group.mask = s.ksu.group.mask ∧ t.ksu.group.reference = s.ksu.group.reference →
        t.ksu.group.state = s.ksu.group.state) ∧
      (¬ (t.ksu.group.mask = s.ksu.group.mask ∧ t.ksu.group.reference = s.ksu.group.reference) →
        t.ksu.group.state = .armed) ∧
      (t.blr.group.mask = s.blr.group.mask ∧ t.blr.group.reference = s.blr.group.reference →
        t.blr.group.state = s.blr.group.state) ∧
      (¬ (t.blr.group.mask = s.blr.group.mask ∧ t.blr.group.reference = s.blr.group.reference) →
        t.blr.group.state = .armed) ∧
      (∀ n : Fin 4, t.ksu.switches[n].edge.code = byteAt x (8 + 5 * n.val) ∧
        t.ksu.switches[n].action.code = byteAt x (9 + 5 * n.val) ∧
        t.ksu.switches[n].side.code = byteAt x (10 + 5 * n.val) ∧
        t.ksu.switches[n].registration = min 31 (byteAt x (11 + 5 * n.val)).toNat ∧
        t.ksu.switches[n].halves.code = byteAt x (12 + 5 * n.val)) ∧
      t.ksu.octave = max (-2) (min 2 (byteAt x 28).toInt) ∧ t.blr.lineSelect.code = byteAt x 29 ∧
      t.blr.trim = max (-2) (min 2 (byteAt x 30).toInt) ∧ t.blr.lossTime = max 8 (byteAt x 31).toNat ∧
      t.bwu = { s.bwu with
        offset := max (-256) (min 255 (x.extractLsb' 256 16).toInt), deadBand := (byteAt x 34).toNat
        restCount := max 1 (min 32 (byteAt x 35).toNat), window := max 1 (byteAt x 36).toNat
        shift := min 7 (byteAt x 37).toNat } ∧
      t.val = { s.val with minSounding := min 16 (byteAt x 38).toNat } ∧
      t.exu = { s.exu with threshold := max 1 (min 8 (byteAt x 39).toNat) } ∧
      t.vbc.wakeTime = max 10 (min 1000 (x.extractLsb' 328 16).toNat) ∧
      t.vbc.expected = (if (byteAt x 40).setWidth 4 = (0 : BitVec 4) then 1 else (byteAt x 40).setWidth 4) ∧
      t.act = { s.act with hushTime := min 60 (byteAt x 43).toNat } ∧
      t.ksu = { t.ksu with
        buttons := s.ksu.buttons, tabs := s.ksu.tabs, chins := s.ksu.chins, latentButtons := s.ksu.latentButtons
        latentChins := s.ksu.latentChins, scanPeriod := s.ksu.scanPeriod } ∧
      t.vbc = { s.vbc with expected := t.vbc.expected, wakeTime := t.vbc.wakeTime } ∧
      t.htm = s.htm ∧ t.sdt = s.sdt ∧ t.rsa = s.rsa ∧ t.blr.link = s.blr.link ∧
      t.blr.image = s.blr.image ∧ t.blr.latent = s.blr.latent ∧ t.blr.lossTimer = s.blr.lossTimer ∧
      t.blr.errors = s.blr.errors ∧ t.blr.tabImage = s.blr.tabImage ∧ t.blr.complete = none ∧
      t.frameTicks = s.frameTicks ∧ t.openTick = s.openTick ∧
      (t.blr.lineSelect ≠ s.blr.lineSelect ∨ t.blr.trim ≠ s.blr.trim →
        t.blr.receiver = .awaitingIdle ∧ t.blr.assembler = .seeking ∧ t.blr.gapRunning = false) ∧
      (t.blr.lineSelect = s.blr.lineSelect ∧ t.blr.trim = s.blr.trim →
        t.blr.receiver = s.blr.receiver ∧ t.blr.assembler = s.blr.assembler ∧ t.blr.gapRunning = s.blr.gapRunning) ∧
      t.blr.conductor =
        (if t.blr.lineSelect = s.blr.lineSelect then s.blr.conductor
         else match t.blr.lineSelect with
          | .main => .main
          | .spare => .spare
          | .auto => s.blr.conductor))

/-- GET_REG answers the 98 bytes of an entry, and PUT_REG of those bytes writes the entry it holds. PUT_REG is refused
whole for an entry above 31, a layer count above 4, a mode outside its list or a layer whose engine mask is 0;
otherwise it replaces the entry, its layers clamped, and touches nothing else (R144, R145, R177). -/
def Obligations.RegistrationsAreWrittenAndRead : Prop :=
  (∀ (s : State) (entry : Byte), s.ready → s.SettingsInRange →
    (32 ≤ entry.toNat → exec (.getReg entry) s = .next (s.answered s { status := .badArg, payload := [] })) ∧
    (entry.toNat < 32 → ∃ treble bass : List Byte, treble.length = 49 ∧ bass.length = 49 ∧
      exec (.getReg entry) s = .next (s.answered s { status := .ok, payload := treble ++ bass }) ∧
      exec (.putReg entry (BitVec.ofNat 392 (natOfBytes treble)) (BitVec.ofNat 392 (natOfBytes bass))) s =
        .next (s.answered s { status := .ok, payload := [] }))) ∧
  ∀ (s : State) (entry : Byte) (treble bass : BitVec 392), s.ready →
    let bad := fun x : BitVec 392 => 4 < (byteAt x 0).toNat ∨ 1 < (byteAt x 1).toNat ∨
      ∃ j, j < (byteAt x 0).toNat ∧ (byteAt x (12 + 11 * j)).setWidth 4 = (0 : BitVec 4)
    (32 ≤ entry.toNat ∨ bad treble ∨ bad bass →
      exec (.putReg entry treble bass) s = .next (s.answered s { status := .badArg, payload := [] })) ∧
    (∀ h : entry.toNat < 32, ¬ bad treble → ¬ bad bass → ∃ x : Registration,
      exec (.putReg entry treble bass) s =
        .next (s.answered { s with rsa := { s.rsa with table := s.rsa.table.set entry.toNat x h } }
          { status := .ok, payload := [] }) ∧
      layersInRange x.treble.layers ∧ layersInRange x.bass.layers ∧
      x.treble.layers.length = (byteAt treble 0).toNat ∧ x.bass.layers.length = (byteAt bass 0).toNat ∧
      x.treble.mode.code = byteAt treble 1 ∧ x.bass.mode.code = byteAt bass 1 ∧
      x.treble.pattern = (if byteAt treble 2 = 0 then none else some (treble.extractLsb' 24 12)) ∧
      x.bass.pattern = (if byteAt bass 2 = 0 then none else some (bass.extractLsb' 24 5)) ∧
      ∀ (layers : List Layer) (half : BitVec 392), layers = x.treble.layers ∧ half = treble ∨
          layers = x.bass.layers ∧ half = bass → ∀ (j : Nat) (l : Layer), layers[j]? = some l →
        l = { timbre := min 511 (half.extractLsb' (8 * (5 + 11 * j)) 16).toNat
              transpose := max (-24) (min 24 (byteAt half (7 + 11 * j)).toInt)
              curve := min 15 (byteAt half (8 + 11 * j)).toNat, volume := min 127 (byteAt half (9 + 11 * j)).toNat
              tilt := max (-8) (min 7 (byteAt half (10 + 11 * j)).toInt)
              priority := min 7 (byteAt half (11 + 11 * j)).toNat
              engineMask := (byteAt half (12 + 11 * j)).setWidth 4
              tailLimit := max 10 (min 5000 (half.extractLsb' (8 * (13 + 11 * j)) 16).toNat)
              late := (byteAt half (15 + 11 * j)).getLsbD 0, accent := (byteAt half (15 + 11 * j)).getLsbD 1 })

/-- GET_CURVE answers the nine points; PUT_CURVE writes all nine clamped to 0..127, decides afresh the level of every
SOUNDING voice whose slot names the curve and of no other voice; a curve above 15 is refused by both (R109, R114).
PUT_MAP writes the map and the bases, clamped, and leaves holds, records and sustain as they are (R54, R177). -/
def Obligations.CurvesAndTheMapAreWritten : Prop :=
  (∀ (s : State) (curve : Byte) (points : BitVec 72), s.ready →
     (16 ≤ curve.toNat →
       exec (.getCurve curve) s = .next (s.answered s { status := .badArg, payload := [] }) ∧
       exec (.putCurve curve points) s = .next (s.answered s { status := .badArg, payload := [] })) ∧
     ∀ h : curve.toNat < 16,
       exec (.getCurve curve) s =
         .next (s.answered s { status := .ok, payload := s.exu.curves[curve.toNat].toList.map (BitVec.ofNat 8) }) ∧
       ∃ t, exec (.putCurve curve points) s = .next t ∧ t.cpt.response = { status := .ok, payload := [] } ∧
         (∀ i : Fin 9, t.exu.curves[curve.toNat][i] = min 127 (byteAt points i.val).toNat) ∧
         (∀ c : Fin 16, c.val ≠ curve.toNat → t.exu.curves[c] = s.exu.curves[c]) ∧ t.exu.threshold = s.exu.threshold ∧
         t.htm = s.htm ∧ t.sdt = s.sdt ∧ t.vbc = s.vbc ∧ t.rsa = s.rsa ∧ t.bwu = s.bwu ∧ t.ksu = s.ksu ∧ t.blr = s.blr ∧
         t.act = s.act ∧ t.val.waiting = s.val.waiting ∧
         ∀ v, match s.ownerSlot v with
           | some x =>
             if x.layer.curve = curve.toNat then
               t.voice v = { s.voice v with
                 target := t.levelOf x, dirty := levelDirty s.exu.threshold (t.levelOf x) (s.voice v).lastSent }
             else t.voice v = s.voice v
           | none => t.voice v = s.voice v) ∧
  ∀ (s : State) (entries : BitVec 768) (tb bb cb : Byte), s.ready → ∃ m : Vector (Option Nat) 96,
    exec (.putMap entries tb bb cb) s =
      .next (s.answered { s with htm := { s.htm with
        map := m, trebleBase := min 127 tb.toNat, bassBase := min 116 bb.toNat, chordBase := min 116 cb.toNat } }
        { status := .ok, payload := [] }) ∧
    ∀ i : Fin 96, m[i] = if byteAt entries i.val = 0xFF then none else some (min 95 (byteAt entries i.val).toNat)

/-! ## Buttons, tabs and chin switches -/

/-- Every scan compares each input's sample with its debounced state as R3 says, whatever it accepts and in every
activity state, and the next scan begins at the period of the activity state then in force, also after a scan that
woke the part (R2, log 20). In SETUP, or where it accepts nothing, a scan changes nothing else (R4). -/
def Obligations.ScanFollowsTheContacts : Prop :=
  ∀ (s : State) (buttons : BitVec 96) (tabs : BitVec 12) (chins : BitVec 4), s.heldInReset = false →
    ∃ t, exec (.scanCompletion buttons tabs chins) s = .next t ∧
      s.ksu.buttons.followScan s.ksu.debounceCount buttons t.ksu.buttons ∧
      s.ksu.tabs.followScan s.ksu.debounceCount tabs t.ksu.tabs ∧
      s.ksu.chins.followScan s.ksu.debounceCount chins t.ksu.chins ∧
      t.ksu.scanPeriod = (if t.act.activity = .resting then .ms2 else .us250) ∧
      (s.act.activity = .setup ∨ s.acceptsChins buttons tabs chins 0 ∧ s.hushed →
        t = { s with ksu := { s.ksu with
          buttons := t.ksu.buttons, tabs := t.ksu.tabs, chins := t.ksu.chins
          scanPeriod := if s.act.activity = .resting then .ms2 else .us250 } })

/-- A matching edge of a chin switch that is not latent sets its notice and runs its action: the octave moves by one
within −2..+2, sustain follows or flips on the named sides, SILENCE leaves no record on them, RECALL copies the entry
(R14 to R17). Where a side's sustain goes from ON to OFF its SUSTAINED records retire normally: their voices are
released, each with its slot's tail limit, in the order of the release stamps oldest record first, treble before bass,
and their entries leave the Waiting List; every other record and voice stays as it is, as all do at a change to ON
(R61, R77, R97). A SUSTAIN_HOLD switch acts on an edge that does not match too. In RESTING an edge that acts, of a
switch whose action is not NONE, wakes the part (R14, R159). An edge of a latent switch raises nothing: its release
clears its mark alone (R7). -/
def Obligations.ChinSwitchEdgeRunsItsAction : Prop :=
  (∀ (s : State) (buttons : BitVec 96) (tabs : BitVec 12) (samples : BitVec 4) (n : Fin 4),
    s.heldInReset = false → s.act.activity ≠ .setup → -2 ≤ s.ksu.octave → s.ksu.octave ≤ 2 →
    s.acceptsChins buttons tabs samples (BitVec.twoPow 4 n.val) → s.ksu.latentChins.getLsbD n.val = false →
    s.ksu.chins.state.getLsbD n.val = !samples.getLsbD n.val →
    let c := s.ksu.switches[n]
    let pressed := samples.getLsbD n.val
    let isMatch := c.edge = .both ∨ c.edge = (if pressed then .press else .release)
    ∃ t, exec (.scanCompletion buttons tabs samples) s = .next t ∧ (isMatch → t.noticeSet (.chin n) = true) ∧
      (¬ isMatch → t.noticeSet (.chin n) = s.noticeSet (.chin n)) ∧
      t.ksu.octave = (if isMatch ∧ c.action = .octaveUp then min 2 (s.ksu.octave + 1)
        else if isMatch ∧ c.action = .octaveDown then max (-2) (s.ksu.octave - 1) else s.ksu.octave) ∧
      (∀ side, t.sustain side =
        if c.action = .sustainHold ∧ c.side.has side = true then pressed
        else if isMatch ∧ c.action = .sustainToggle ∧ c.side.has side = true then !s.sustain side
        else s.sustain side) ∧
      (isMatch ∧ c.action = .silence → ∀ x ∈ t.sdt.records, c.side.has x.key.side = false) ∧
      (isMatch ∧ c.action = .recall → c.registration ≤ 31 → t.rsa.generation = s.rsa.generation + 1 ∧
        ∀ side, t.current side = if c.halves.has side = true then
          { layers := (s.rsa.table.getD c.registration s.rsa.table[0]).layers side, entry := c.registration }
          else s.current side) ∧
      (c.action ≠ .recall → t.rsa = s.rsa) ∧
      (c.action = .none ∨ c.action = .notice → t.htm = s.htm ∧ t.sdt = s.sdt ∧ t.val = s.val) ∧
      (¬ (isMatch ∧ c.action = .silence) →
        let retires := fun x : Record => x.holders = [] ∧ s.sustain x.key.side = true ∧ t.sustain x.key.side = false
        ((∀ x ∈ s.sdt.records, ¬ retires x) → t.sdt = s.sdt ∧ t.val = s.val) ∧
        (s.TableLaws →
          (∀ k x, s.record? k = some x → t.record? k = if retires x then none else some x) ∧
          (∀ x ∈ s.sdt.records, retires x → ∀ y ∈ x.slots, ∀ v, y.status = .voiced v → t.voice v = { s.voice v with
            state := .releasing, owner := none, tail := .length y.layer.tailLimit
            pending := if (s.voice v).pending = .start then .startRelease else .release
            releaseStamp := (t.voice v).releaseStamp }) ∧
          (∀ v, (∀ x ∈ s.sdt.records, retires x → v ∉ x.voices) → t.voice v = s.voice v) ∧
          (∀ x ∈ s.sdt.records, ∀ y ∈ s.sdt.records, retires x → retires y →
            x.key.side = y.key.side ∧ x.stamp.toNat < y.stamp.toNat ∨ x.key.side = .treble ∧ y.key.side = .bass →
            ∀ v ∈ x.voices, ∀ w ∈ y.voices,
              (t.voice v).releaseStamp - s.val.stamp < (t.voice w).releaseStamp - s.val.stamp) ∧
          t.val.waiting = s.val.waiting.filter fun r => (s.record? r.key).all fun x => !decide (retires x))) ∧
      t.act.activity =
        (if s.act.activity = .resting ∧ c.action ≠ .none ∧ (isMatch ∨ c.action = .sustainHold) then .playing
         else s.act.activity) ∧
      t.noticeSet .woke = (s.noticeSet .woke || decide (t.act.activity ≠ s.act.activity)) ∧
      t.ksu.latentButtons = s.ksu.latentButtons ∧ t.ksu.latentChins = s.ksu.latentChins ∧ t.exu = s.exu ∧
        t.bwu = s.bwu) ∧
  ∀ (s : State) (buttons : BitVec 96) (tabs : BitVec 12) (samples : BitVec 4) (n : Fin 4),
    s.heldInReset = false → s.act.activity ≠ .setup → s.hushed →
    s.acceptsChins buttons tabs samples (BitVec.twoPow 4 n.val) → s.ksu.latentChins.getLsbD n.val = true →
    s.ksu.chins.state.getLsbD n.val = !samples.getLsbD n.val →
    ∃ t, exec (.scanCompletion buttons tabs samples) s = .next t ∧
      t = { s with ksu := { s.ksu with
        buttons := t.ksu.buttons, tabs := t.ksu.tabs, chins := t.ksu.chins, latentChins := t.ksu.latentChins
        scanPeriod := t.ksu.scanPeriod } } ∧
      ∀ m : Fin 4, t.ksu.latentChins.getLsbD m.val =
        (s.ksu.latentChins.getLsbD m.val && (decide (m ≠ n) || samples.getLsbD n.val))

/-- A change of a treble tab takes an ARMED group that leaves its reference to SETTLING, a departure, and restarts the
timer of a SETTLING group where the tab is selected; a departure wakes a resting part, and nothing else is raised (R8
to R10, R159). A settle timer's expiry, whatever its count (log 2), returns the group to ARMED. With the settled
pattern equal to the reference nothing is raised; otherwise it is the new reference, the first entry whose half has it
is applied for that side alone, and with no such entry TAB_NOMATCH is set (R8, R11, R153). -/
def Obligations.TabGroupsDepartAndSettle : Prop :=
  (∀ (s : State) (buttons : BitVec 96) (tabs : BitVec 12) (chins : BitVec 4) (j : Fin 12), s.heldInReset = false →
    s.act.activity ≠ .setup → s.acceptsTabs buttons tabs (BitVec.twoPow 12 j.val) chins →
    let g := s.ksu.group
    let before := s.ksu.tabs.state
    let after := s.ksu.tabs.state ^^^ BitVec.twoPow 12 j.val
    let departs := g.state = .armed ∧ (before ^^^ g.reference) &&& g.mask = 0 ∧ (after ^^^ g.reference) &&& g.mask ≠ 0
    ∃ t, exec (.scanCompletion buttons tabs chins) s = .next t ∧ t.ksu.tabs.state = after ∧
      t.ksu.group = { g with state := match g.state with
        | .armed => if departs then .settling s.ksu.settleTime else .armed
        | .settling left => if g.mask.getLsbD j.val then .settling s.ksu.settleTime else .settling left } ∧
      t.act.activity = (if s.act.activity = .resting ∧ departs then .playing else s.act.activity) ∧
      t.cpt = (if s.act.activity = .resting ∧ departs then (s.setNotice .woke).cpt else s.cpt) ∧
      t.ksu.latentButtons = s.ksu.latentButtons ∧ t.ksu.latentChins = s.ksu.latentChins ∧ t.ksu.octave = s.ksu.octave ∧
      t.htm = s.htm ∧ t.sdt = s.sdt ∧ t.val = s.val ∧ t.rsa = s.rsa ∧ t.blr = s.blr ∧ t.bwu = s.bwu ∧ t.exu = s.exu) ∧
  ∀ s : State, s.heldInReset = false → s.hushed →
    (∀ left, s.ksu.group.state = .settling left →
      let p := s.ksu.tabs.state &&& s.ksu.group.mask
      (p = s.ksu.group.reference &&& s.ksu.group.mask → exec (.settleExpiry .treble) s =
        .next { s with ksu := { s.ksu with group := { s.ksu.group with state := .armed } } }) ∧
      (p ≠ s.ksu.group.reference &&& s.ksu.group.mask →
        ∃ t, exec (.settleExpiry .treble) s = .next t ∧
          t.ksu = { s.ksu with group := { s.ksu.group with reference := p, state := .armed } } ∧ t.blr = s.blr ∧
          t.htm = s.htm ∧ t.sdt = s.sdt ∧ t.val = s.val ∧ t.vbc = s.vbc ∧ t.bwu = s.bwu ∧ t.rsa.table = s.rsa.table ∧
          ((∀ n : Fin 32, s.rsa.table[n].treble.pattern ≠ some p) → t.rsa = s.rsa ∧ t.noticeSet .tabNomatch = true) ∧
          ∀ n : Fin 32, s.rsa.table[n].treble.pattern = some p →
            (∀ m, m < n → s.rsa.table[m].treble.pattern ≠ some p) →
            t.rsa.treble = { layers := s.rsa.table[n].treble.layers, entry := n.val } ∧ t.rsa.bass = s.rsa.bass ∧
            t.rsa.generation = s.rsa.generation + 1 ∧ t.noticeSet .tabNomatch = s.noticeSet .tabNomatch)) ∧
    ∀ left, s.blr.group.state = .settling left →
      let p := s.blr.tabImage &&& s.blr.group.mask
      (p = s.blr.group.reference &&& s.blr.group.mask → exec (.settleExpiry .bass) s =
        .next { s with blr := { s.blr with group := { s.blr.group with state := .armed } } }) ∧
      (p ≠ s.blr.group.reference &&& s.blr.group.mask →
        ∃ t, exec (.settleExpiry .bass) s = .next t ∧
          t.blr = { s.blr with group := { s.blr.group with reference := p, state := .armed } } ∧ t.ksu = s.ksu ∧
          t.htm = s.htm ∧ t.sdt = s.sdt ∧ t.val = s.val ∧ t.vbc = s.vbc ∧ t.bwu = s.bwu ∧ t.rsa.table = s.rsa.table ∧
          ((∀ n : Fin 32, s.rsa.table[n].bass.pattern ≠ some p) → t.rsa = s.rsa ∧ t.noticeSet .tabNomatch = true) ∧
          ∀ n : Fin 32, s.rsa.table[n].bass.pattern = some p →
            (∀ m, m < n → s.rsa.table[m].bass.pattern ≠ some p) →
            t.rsa.bass = { layers := s.rsa.table[n].bass.layers, entry := n.val } ∧ t.rsa.treble = s.rsa.treble ∧
            t.rsa.generation = s.rsa.generation + 1 ∧ t.noticeSet .tabNomatch = s.noticeSet .tabNomatch)

/-! ## The bass link -/

/-- A character is kept, discarded or abandons the frame as R20 to R22 say, at every trim; after a framing error the
receiver awaits idle. The 20th byte completes the frame: with a sum of 0xFF it is complete and waits to be handled
(log 10), otherwise it is abandoned and counted; the assembler seeks again. The receiver's own events: a start takes
an idle receiver and stops the gap timer, a noise start gives both back (log 11), a high sample ends the wait for
idle, and a gap abandons and counts the frame (R19 to R22). -/
def Obligations.BassLineEventsMoveReceiverAndAssembler : Prop :=
  (∀ s : State, s.heldInReset = false →
    (s.blr.receiver = .idle → exec .startBitDetection s =
      .next { s with blr := { s.blr with receiver := .receiving, gapRunning := false } }) ∧
    (s.blr.receiver = .receiving → exec .noiseStartBit s = .next { s with blr := { s.blr with
      receiver := .idle, gapRunning := decide (s.blr.assembler ≠ .seeking) } }) ∧
    (s.blr.receiver = .awaitingIdle → exec .highSampleInAwaitingIdle s =
      .next { s with blr := { s.blr with receiver := .idle } }) ∧
    (∀ bytes, s.blr.assembler = .collecting bytes → s.blr.gapRunning = true → exec .gapExpiry s =
      .next { s with blr := { s.blr with
        assembler := .seeking, gapRunning := false, errors := min 255 (s.blr.errors + 1) } })) ∧
  ∀ (s : State) (b : Byte) (parity stop : Bool), s.heldInReset = false → s.hushed → -2 ≤ s.blr.trim → s.blr.trim ≤ 2 →
    s.blr.receiver ≠ .awaitingIdle →
    let good := stop = true ∧ parity = evenParity b
    let r : Receiver := if stop then .idle else .awaitingIdle
    match s.blr.assembler with
    | .seeking =>
      exec (.bassCharacter (characterLine b parity stop)) s =
        .next { s with blr :=
          if good ∧ b = 0xB5 then { s.blr with receiver := r, assembler := .collecting [0xB5], gapRunning := true }
          else { s.blr with receiver := r } }
    | .collecting bytes =>
      (¬ good → exec (.bassCharacter (characterLine b parity stop)) s =
        .next { s with blr := { s.blr with
          receiver := r, assembler := .seeking, gapRunning := false, errors := min 255 (s.blr.errors + 1) } }) ∧
      (good → bytes.length + 1 < 20 → exec (.bassCharacter (characterLine b parity stop)) s =
        .next { s with blr := { s.blr with
          receiver := r, assembler := .collecting (bytes ++ [b]), gapRunning := true } }) ∧
      (good → bytes.length = 19 → s.blr.complete = none →
        ∃ t, exec (.bassCharacter (characterLine b parity stop)) s = .next t ∧
          if ((bytes ++ [b]).map BitVec.toNat).sum % 256 = 0xFF then
            t = { s with blr := { s.blr with
              receiver := .idle, assembler := .seeking, gapRunning := false, complete := t.blr.complete } } ∧
            ∃ f : BitVec 160, t.blr.complete = some f ∧ ∀ i, i < 20 → byteAt f i = (bytes ++ [b]).getD i 0
          else
            t = { s with blr := { s.blr with
              receiver := .idle, assembler := .seeking, gapRunning := false, errors := min 255 (s.blr.errors + 1) } })

/-- In SETUP an accepted frame brings the link UP, sets LINK_BACK only after a loss, restarts the loss timer, and its
images become the last ones with no press, release or tab change handed on (R13, R26, R28, R31). The assembler
is SEEKING after it (R22). -/
def Obligations.FrameInSetupIsAdopted : Prop :=
  ∀ (s : State) (f : BitVec 160), s.heldInReset = false → s.act.activity = .setup → s.blr.complete = none →
    goodFrame f = true → ∃ t, exec (.acceptedFrame f) s = .next t ∧
      t.blr = { s.blr with
        assembler := .seeking, gapRunning := false, link := .up, lossTimer := 0, image := f.extractLsb' 8 120
        tabImage := f.extractLsb' 128 5 } ∧
      t.ksu = s.ksu ∧ t.htm = s.htm ∧ t.sdt = s.sdt ∧ t.rsa = s.rsa ∧ t.exu = s.exu ∧ t.act = s.act ∧
      t.val.waiting = s.val.waiting ∧ t.vbc.bus = s.vbc.bus ∧
      t.noticeSet .linkBack = (s.noticeSet .linkBack || decide (s.blr.link = .lost))

/-- In PLAYING and RESTING an accepted frame brings the link UP on the conductor in use, and hands its changes on. A
release of a bass button ends its hold, or clears its latent mark and raises nothing; a press makes a hold with its
press time where the table has room; other buttons keep theirs. In a frame without presses each record loses its
released holders: one left without any is retired where sustain is OFF, its voices released with their slots' tail
limits and its entries out of the Waiting List, and every other record and voice stays (R58, R76, R77). Where there is
room, the hold of a press lists exactly its played pitches, and each one's record lists the button (R52, R53, R56);
with the bus not RUNNING the record of a pitch keeps its slots and takes the pressed buttons as further holders in
ascending id after those that stay, or is created anew with them as its holders and one WAITING slot, or SKIPPED one,
for each layer (R72, R74, R75). The bass tab group takes a changed tab image as one change. A wake cause, and nothing
else, wakes a resting part. A frame at recovery is handled alike (R9, R10, R13, R26, R27, R31, R159). The assembler
is SEEKING after it (R22). -/
def Obligations.AcceptedFrameHandsItsChangesOn : Prop :=
  ∀ (s : State) (f : BitVec 160), s.heldInReset = false → s.act.activity ≠ .setup → s.blr.complete = none →
    goodFrame f = true →
    let image : BitVec 120 := f.extractLsb' 8 120
    let tabs : BitVec 5 := f.extractLsb' 128 5
    let released := fun k : Fin 120 => s.blr.image.getLsbD k.val && !image.getLsbD k.val
    let pressed := fun k : Fin 120 => image.getLsbD k.val && !s.blr.image.getLsbD k.val
    ∃ t, exec (.acceptedFrame f) s = .next t ∧
      t.blr = { s.blr with
        assembler := .seeking, gapRunning := false, link := .up, lossTimer := 0, image := image, tabImage := tabs
        latent := t.blr.latent, group := t.blr.group } ∧
      (∀ k : Fin 120, t.blr.latent.getLsbD k.val = (s.blr.latent.getLsbD k.val && !released k)) ∧
      t.blr.group = { s.blr.group with
        state :=
          if tabs = s.blr.tabImage then s.blr.group.state
          else s.blr.group.stateAfter s.ksu.settleTime s.blr.tabImage tabs } ∧
      t.noticeSet .linkBack = (s.noticeSet .linkBack || decide (s.blr.link = .lost)) ∧
      (∀ k : Fin 120, released k = true → s.blr.latent.getLsbD k.val = false → t.hold? (.bass k) = none) ∧
      (∀ k : Fin 120, released k = true → s.blr.latent.getLsbD k.val = true → t.hold? (.bass k) = s.hold? (.bass k)) ∧
      (∀ k : Fin 120, released k = false → pressed k = false → t.hold? (.bass k) = s.hold? (.bass k)) ∧
      (∀ k : Fin 120, pressed k = true → s.hold? (.bass k) = none →
        s.htm.holds.length + ((List.finRange 120).filter pressed).length ≤ 64 → ∃ h, t.hold? (.bass k) = some h ∧
          h.pressTime = BitVec.ofNat 32 (s.frameTicks / 4) ∧
          ∀ p ∈ h.pitches, p ∈ bassPitches s.htm.bassBase s.htm.chordBase k) ∧
      (s.TableLaws → s.HoldLaws →
        let presses := (List.finRange 120).filter pressed
        let stays := fun b : Button =>
          (List.finRange 120).all fun k => !(decide (b = .bass k) && released k && !s.blr.latent.getLsbD k.val)
        let gone := fun x : Record =>
          x.key.side = .bass ∧ x.holders ≠ [] ∧ x.holders.filter stays = [] ∧ s.htm.bassSustain = false
        let room := (∀ k, pressed k = true → s.hold? (.bass k) = none) ∧ s.htm.holds.length + presses.length ≤ 64 ∧
          s.sdt.records.length + 3 * presses.length ≤ 96 ∧ presses.length ≤ 8 ∧
          ∀ x ∈ s.sdt.records, x.key.side = .bass → x.holders.length + presses.length ≤ 8
        (presses = [] →
          (∀ k, t.record? k =
            (s.record? k).bind fun x => if gone x then none else some { x with holders := x.holders.filter stays }) ∧
          (∀ x ∈ s.sdt.records, gone x → ∀ y ∈ x.slots, ∀ v, y.status = .voiced v → t.voice v = { s.voice v with
            state := .releasing, owner := none, tail := .length y.layer.tailLimit
            pending := if (s.voice v).pending = .start then .startRelease else .release
            releaseStamp := (t.voice v).releaseStamp }) ∧
          (∀ v, (∀ x ∈ s.sdt.records, gone x → v ∉ x.voices) →
            (t.voice v).state = (s.voice v).state ∧ (t.voice v).owner = (s.voice v).owner) ∧
          t.val.waiting = s.val.waiting.filter fun r => (s.record? r.key).all fun x => !decide (gone x)) ∧
        (room → ∀ k : Fin 120, pressed k = true →
          let pitches := bassPitches s.htm.bassBase s.htm.chordBase k
          t.hold? (.bass k) =
            some { button := .bass k, pitches := pitches, pressTime := BitVec.ofNat 32 (s.frameTicks / 4) } ∧
          ∀ p ∈ pitches, ∃ y, t.record? { side := .bass, pitch := p } = some y ∧ .bass k ∈ y.holders) ∧
        (room → s.vbc.bus ≠ .running → ∀ p : Nat,
          let k : Key := { side := .bass, pitch := p }
          let plays := fun b => decide (p ∈ bassPitches s.htm.bassBase s.htm.chordBase b)
          let joins := (presses.filter plays).map Button.bass
          let built := if joins = [] then t.record? k = none else ∃ stamp, t.record? k = some
            { key := k, holders := joins, stamp := stamp, generation := s.rsa.generation
              slots := s.rsa.bass.layers.map fun l =>
                { layer := l, soundingPitch := soundingPitch p l.transpose, override := none, mute := false
                  status := if soundingPitch p l.transpose = none then .skipped else .waiting } }
          match s.record? k with
          | none => built
          | some x =>
            (gone x → built) ∧
              (¬ gone x → t.record? k = some { x with holders := x.holders.filter stays ++ joins }))) ∧
      (∀ i : Fin 96, t.hold? (.treble i) = s.hold? (.treble i)) ∧
      t.htm = { s.htm with holds := t.htm.holds } ∧ t.ksu = s.ksu ∧ t.exu = s.exu ∧ t.rsa = s.rsa ∧
      (s.act.activity = .playing → t.act.activity = .playing) ∧
      (s.act.activity = .resting → (t.act.activity = .playing ↔ s.frameWakes f) ∧ t.act.activity ≠ .setup) ∧
      t.noticeSet .woke = (s.noticeSet .woke || decide (t.act.activity ≠ s.act.activity))

/-- The loss timer's expiry, whatever its count (log 2). In UP: LOST, all buttons released and unmarked, the bellows
at rest with S = 0 and any collection failed, the level of every SOUNDING voice decided afresh, LINK_LOST set; in AUTO
the other conductor, awaiting idle; the tab image, the error count and the reversal count stay (R29, R44, R47, R114).
In DOWN or LOST it only restarts the timer and, in AUTO, moves to the other conductor (R30). -/
def Obligations.LossTimerExpiryEndsOrSearches : Prop :=
  (∀ s : State, s.heldInReset = false → s.blr.link = .up → ∃ t, exec .lossTimerExpiry s = .next t ∧
    t.blr.link = .lost ∧ t.blr.image = 0 ∧ t.blr.latent = s.blr.latent &&& ~~~ s.blr.image ∧ t.blr.lossTimer = 0 ∧
    t.blr.tabImage = s.blr.tabImage ∧ t.blr.errors = s.blr.errors ∧ t.blr.group = s.blr.group ∧
    t.noticeSet .linkLost = true ∧
    t.bwu = { s.bwu with
      direction := .rest, departed := .none, restRun := 0, restAge := 0, smoothed := 0, faultRun := 0
      faultDeclared := false, calibration := .idle } ∧
    (s.bwu.calibration ≠ .idle → t.noticeSet .calFailed = true) ∧
    (∀ v x, t.ownerSlot v = some x → t.voice v = t.relevelled v x) ∧
    (s.blr.image = 0 → t.sdt = s.sdt ∧ t.vbc = s.vbc ∧ t.val = { s.val with voices := t.val.voices } ∧
      ∀ v, t.voice v = (s.voice v).levelledIn t (s.ownerSlot v)) ∧
    (if s.blr.lineSelect = .auto then
      t.blr.conductor ≠ s.blr.conductor ∧ t.blr.receiver = .awaitingIdle ∧ t.blr.assembler = .seeking
     else t.blr.conductor = s.blr.conductor ∧ t.blr.receiver = s.blr.receiver ∧ t.blr.assembler = s.blr.assembler) ∧
    (s.act.activity ≠ .setup → ∀ k : Fin 120, s.blr.image.getLsbD k.val = true → s.blr.latent.getLsbD k.val = false →
      t.hold? (.bass k) = none) ∧
    (∀ i : Fin 96, t.hold? (.treble i) = s.hold? (.treble i)) ∧ t.ksu = s.ksu ∧ t.rsa = s.rsa ∧ t.exu = s.exu) ∧
  ∀ s : State, s.heldInReset = false → s.hushed → s.blr.link ≠ .up →
    (s.blr.lineSelect ≠ .auto → exec .lossTimerExpiry s = .next { s with blr := { s.blr with lossTimer := 0 } }) ∧
    (s.blr.lineSelect = .auto → exec .lossTimerExpiry s = .next { s with blr := { s.blr with
      lossTimer := 0, conductor := (if s.blr.conductor = .main then .spare else .main), receiver := .awaitingIdle
      assembler := .seeking, gapRunning := false } })

/-! ## The bellows -/

/-- Stage 1's clamp and stage 3's scale. The offset sample is the difference clamped to −2047..2047, so that full push
and full pull reach the same magnitude. The level is 0 inside the band and the floor of R40 above it; it stays within
0..1023, reaches 1023 at 2047 and nowhere below, and rises with the magnitude (R35, R40). -/
def Obligations.BellowsLevelStaysOnItsScale : Prop :=
  (∀ p o : Int, -2048 ≤ p → p ≤ 2047 → -256 ≤ o → o ≤ 255 →
    (-2303 ≤ p - o ∧ p - o ≤ 2303) ∧
    (-2047 ≤ p - o → p - o ≤ 2047 → offsetSample p o = p - o) ∧
    (2047 < p - o → offsetSample p o = 2047) ∧ (p - o < -2047 → offsetSample p o = -2047) ∧
    (offsetSample p o).natAbs ≤ 2047 ∧ (0 < p - o ↔ 0 < offsetSample p o) ∧ (p - o < 0 ↔ offsetSample p o < 0)) ∧
  ∀ d : Nat, d ≤ 255 →
    (∀ m, m ≤ d → bellowsLevel m d = 0) ∧
    (∀ m, d < m → bellowsLevel m d = min 1023 ((m - d) * 1023 / (2047 - d))) ∧
    bellowsLevel 2047 d = 1023 ∧ (∀ m, m < 2047 → bellowsLevel m d < 1023) ∧
    ∀ m n, m ≤ n → n ≤ 2047 → bellowsLevel m d ≤ bellowsLevel n d

/-- S becomes the target at shift 0, and moves otherwise by the truncated quotient or by the forced unit. It never
passes the target, reaches it after a finite run of samples while it holds still, and then stays (R41). -/
def Obligations.SmoothingReachesTheTarget : Prop :=
  ∀ start target k : Nat, start ≤ 16368 → target ≤ 16368 → k ≤ 7 →
    smoothed start target 0 = target ∧
    (1 ≤ k →
      (2 ^ k ≤ ((target : Int) - start).natAbs →
        (smoothed start target k : Int) = start + Int.tdiv ((target : Int) - start) (2 ^ k)) ∧
      (((target : Int) - start).natAbs < 2 ^ k → start < target → smoothed start target k = start + 1) ∧
      (((target : Int) - start).natAbs < 2 ^ k → target < start → smoothed start target k + 1 = start)) ∧
    (min start target ≤ smoothed start target k ∧ smoothed start target k ≤ max start target) ∧
    smoothed target target k = target ∧ ∃ n, n ≤ 16368 ∧ (fun x => smoothed x target k)^[n] start = target

/-- A frame with no button or tab change, in every activity state and link state (R26, R31). A good sample clears the
fault run and mark, moves S by stage 4, and steps the direction, the departed direction, the rest run, the rest age
and the reversal count as R36 to R39 say; the target and dirty flag of every SOUNDING voice are decided afresh at the
new S (R114), and a reversal gives each SOUNDING voice of an ACCENT layer with no pending command an ACCENT, in
ascending voice id at the Send List's tail, and touches no other (R117, R123). A faulty sample is not used: only the
fault run counts it, until it reaches the loss time and the fault is declared once, with the bellows at rest, the
levels decided afresh and SENSOR_FAULT set (R42, R43, R114). The assembler is SEEKING after the frame (R22). -/
def Obligations.SamplesStepTheBellows : Prop :=
  ∀ (s : State) (f : BitVec 160), s.heldInReset = false → s.blr.complete = none →
    goodFrame f = true → s.blr.image = f.extractLsb' 8 120 → s.blr.tabImage = f.extractLsb' 128 5 →
    let p := offsetSample ((f.extractLsb' 136 12 : BitVec 12).toInt) s.bwu.offset
    let above := s.bwu.deadBand < p.natAbs
    let d : Direction := if 0 < p then .push else .pull
    let crosses := s.bwu.direction ≠ .rest ∧ s.bwu.direction ≠ d ∨
      s.bwu.direction = .rest ∧ s.bwu.restAge < s.bwu.window ∧
        (s.bwu.departed = .push ∧ d = .pull ∨ s.bwu.departed = .pull ∧ d = .push)
    let accented := fun v : Fin 128 => decide (above ∧ crosses) && (s.ownerSlot v).any (·.layer.accent) &&
      (s.voice v).pending == .none
    ∃ t, exec (.acceptedFrame f) s = .next t ∧ t.htm = s.htm ∧
      t.blr = { s.blr with assembler := .seeking, gapRunning := false, link := .up, lossTimer := 0 } ∧
      t.sdt = s.sdt ∧ t.rsa = s.rsa ∧ t.ksu = s.ksu ∧ t.exu = s.exu ∧
      (f.getLsbD 151 = true → t.vbc = s.vbc ∧ t.act.activity = s.act.activity ∧
        if s.blr.lossTime ≤ min 255 (s.bwu.faultRun + 1) ∧ s.bwu.faultDeclared = false then
          t.bwu = { s.bwu with
            direction := .rest, departed := .none, restRun := 0, restAge := 0, smoothed := 0
            faultRun := min 255 (s.bwu.faultRun + 1), faultDeclared := true, calibration := .idle } ∧
          t.noticeSet .sensorFault = true ∧ (s.bwu.calibration ≠ .idle → t.noticeSet .calFailed = true) ∧
          t.val = { s.val with voices := t.val.voices } ∧ ∀ v, t.voice v = (s.voice v).levelledIn t (s.ownerSlot v)
        else t.bwu = { s.bwu with faultRun := min 255 (s.bwu.faultRun + 1) } ∧ t.val = s.val ∧
          (s.blr.link ≠ .lost → t.cpt.notices = s.cpt.notices)) ∧
      (f.getLsbD 151 = false → t.val = { s.val with voices := t.val.voices } ∧
        (∀ v, t.voice v = ({ s.voice v with
          pending := if accented v then .accent else (s.voice v).pending } : Voice).levelledIn t (s.ownerSlot v)) ∧
        t.vbc = { (if above ∧ s.bwu.direction = .rest then s.roused else s).vbc with
          sendList := s.vbc.sendList ++ ((List.finRange 128).filter accented).map fun v =>
            { voice := v, start := none } }) ∧
      (f.getLsbD 151 = false → s.bwu.calibration = .idle →
        t.bwu.offset = s.bwu.offset ∧ t.bwu.calibration = .idle ∧ t.bwu.faultRun = 0 ∧ t.bwu.faultDeclared = false ∧
        t.bwu.smoothed = smoothed s.bwu.smoothed (bellowsLevel p.natAbs s.bwu.deadBand * 16) s.bwu.shift ∧
        (above → t.bwu.direction = d ∧ t.bwu.restRun = 0 ∧ t.bwu.departed = s.bwu.departed ∧
          t.bwu.restAge = s.bwu.restAge ∧ t.bwu.reversals = s.bwu.reversals + (if crosses then 1 else 0) ∧
          (s.bwu.direction = .rest → s.act.activity = .resting →
            t.act.activity = .playing ∧ t.noticeSet .woke = true)) ∧
        (¬ above → t.bwu.restRun = min 255 (s.bwu.restRun + 1) ∧ t.bwu.reversals = s.bwu.reversals ∧
          t.act.activity = s.act.activity ∧
          if s.bwu.direction = .rest then t.bwu.direction = .rest ∧ t.bwu.restAge = min 255 (s.bwu.restAge + 1) ∧
            t.bwu.departed = s.bwu.departed
          else if s.bwu.restCount ≤ min 255 (s.bwu.restRun + 1) then
            t.bwu.direction = .rest ∧ t.bwu.restAge = 0 ∧
            t.bwu.departed = (if s.bwu.direction = .push then .push else .pull)
          else t.bwu.direction = s.bwu.direction ∧ t.bwu.restAge = s.bwu.restAge ∧ t.bwu.departed = s.bwu.departed))

/-- CALIBRATE starts an empty collection when the link is UP and is refused otherwise; the first good sample is the
least and the greatest so far, and the 16th ends it, with CAL_FAILED and the offset kept where the spread exceeds
2 × D, and otherwise with CAL_DONE and the offset of R46 (R45, R46). -/
def Obligations.CalibrationCollectsSixteenSamples : Prop :=
  ∀ s : State, s.heldInReset = false →
    (s.cpt.busy = false → s.blr.link = .up → ∃ t, exec .calibrate s = .next t ∧
      t.cpt.response = { status := .accepted, payload := [] } ∧
      t.bwu = { s.bwu with calibration := .collecting 0 0 none } ∧ t.blr = s.blr ∧ t.act.activity = s.act.activity ∧
      t.cpt.notices = s.cpt.notices) ∧
    (s.cpt.busy = false → s.blr.link ≠ .up →
      exec .calibrate s = .next (s.answered s { status := .wrongState, payload := [] })) ∧
    ∀ (f : BitVec 160) (n : Nat) (sum : Int) (bounds : Option (Int × Int)), s.blr.complete = none →
      s.blr.link = .up → goodFrame f = true →
      f.getLsbD 151 = false → s.blr.image = f.extractLsb' 8 120 → s.blr.tabImage = f.extractLsb' 128 5 →
      s.bwu.calibration = .collecting n sum bounds →
      let p := (f.extractLsb' 136 12 : BitVec 12).toInt
      let least := (bounds.map fun b => min b.1 p).getD p
      let greatest := (bounds.map fun b => max b.2 p).getD p
      ∃ t, exec (.acceptedFrame f) s = .next t ∧
        if n + 1 < 16 then
          t.bwu.calibration = .collecting (n + 1) (sum + p) (some (least, greatest)) ∧ t.bwu.offset = s.bwu.offset
        else
          t.bwu.calibration = .idle ∧
          if 2 * (s.bwu.deadBand : Int) < greatest - least then
            t.bwu.offset = s.bwu.offset ∧ t.noticeSet .calFailed = true
          else t.bwu.offset = max (-256) (min 255 (Int.fdiv (sum + p + 8) 16)) ∧ t.noticeSet .calDone = true

/-! ## Holds and the key maps -/

/-- The columns have the root classes of Table 4-1, and a bass press plays, with the bases in force and no octave
shift, the classes of its row on its column's root, in mapping order, each folded into the twelve pitches of its base;
the three of a chord differ (R52, R53). -/
def Obligations.BassButtonsFoldIntoTheirBase : Prop :=
  (List.range 20).map rootClass = [4, 11, 6, 1, 8, 3, 10, 5, 0, 7, 2, 9, 4, 11, 6, 1, 8, 3, 10, 5] ∧
  (∀ (s : State) (k : Fin 120), s.playedPitches (.bass k) = some (bassPitches s.htm.bassBase s.htm.chordBase k)) ∧
  ∀ (bassBase chordBase : Nat) (k : Fin 120), bassBase ≤ 116 → chordBase ≤ 116 →
    let base := if k.val % 6 < 2 then bassBase else chordBase
    let root : Int := 7 * ((k.val / 6 : Nat) - 8 : Int)
    (bassPitches bassBase chordBase k).Nodup ∧
    (bassPitches bassBase chordBase k).length = (if k.val % 6 < 2 then 1 else 3) ∧
    (∀ p ∈ bassPitches bassBase chordBase k, base ≤ p ∧ p ≤ base + 11 ∧ p ≤ 127) ∧
    (bassPitches bassBase chordBase k).map (fun p => ((p : Int) - root) % 12) =
      (match k.val % 6 with
        | 0 => [4]
        | 1 => [0]
        | 2 => [0, 4, 7]
        | 3 => [0, 3, 7]
        | 4 => [0, 4, 10]
        | _ => [0, 3, 9])

/-- A treble press outside SETUP makes the button's hold with its press time, and wakes a resting part (R6, R56,
R159). Its pitch is offered. Where no record has the pitch and the bus is not RUNNING, the record is created with the
button as its holder, the next stamp, the current generation and one WAITING slot for each layer, in index order, or a
SKIPPED slot, which does not wait, where the layer's transpose leaves 0..127 (R51, R68, R74, R75, R103). A record that
has the pitch takes the button as a further holder, and at eight holders refuses it with HOLDER_FULL, the hold then
without the pitch (R67, R72). A SUSTAINED record becomes HELD again, and its voices with no pending command are
accented in slot order (R73, R123). Nothing else of the tables changes. A press of an UNUSED button, or of one that
has a hold, wakes a resting part, in PLAYING sets the hush timer to 0 at the instant of its expiry (R158, log 28) and
leaves it otherwise (R159), and does nothing else; with 64 holds HOLD_FULL is set besides and no hold is made; and a
played pitch outside 0..127 leaves a hold with an empty list (R51, R56). After a wake in the scan the next begins at
250 µs (log 20). -/
def Obligations.TreblePressMakesAHoldAndARecord : Prop :=
  (∀ (s : State) (buttons : BitVec 96) (tabs : BitVec 12) (chins : BitVec 4) (i : Fin 96),
    s.heldInReset = false → s.act.activity ≠ .setup → s.hushed →
    s.acceptsButtons buttons (BitVec.twoPow 96 i.val) tabs chins → s.ksu.buttons.state.getLsbD i.val = false →
    s.ksu.latentButtons.getLsbD i.val = false →
    let b : Button := .treble i
    let plays := fun offset : Nat => (s.htm.trebleBase : Int) + offset + 12 * s.ksu.octave
    ∃ t, exec (.scanCompletion buttons tabs chins) s = .next t ∧
      let woken : State := { s.roused with ksu := { s.ksu with
        buttons := t.ksu.buttons, tabs := t.ksu.tabs, chins := t.ksu.chins, scanPeriod := .us250 } }
      (s.htm.map[i] = none ∨ s.hold? b ≠ none → t = woken) ∧
      (s.htm.map[i] ≠ none → s.hold? b = none → 64 ≤ s.htm.holds.length → t = woken.setNotice .holdFull) ∧
      ∀ offset, s.htm.map[i] = some offset → s.hold? b = none → s.htm.holds.length < 64 →
        plays offset < 0 ∨ 127 < plays offset →
        t = { woken with
          htm := { s.htm with holds := s.htm.holds ++
            [{ button := b, pitches := [], pressTime := BitVec.ofNat 32 (s.frameTicks / 4) }] }
          act := { s.act with activity := .playing, hush := 0 } }) ∧
  ∀ (s : State) (buttons : BitVec 96) (tabs : BitVec 12) (chins : BitVec 4) (i : Fin 96) (p : Nat),
    s.pressesAlone buttons tabs chins i p →
    let k : Key := { side := .treble, pitch := p }
    let b : Button := .treble i
    let pitch := fun l : Layer =>
      if 0 ≤ (p : Int) + l.transpose ∧ (p : Int) + l.transpose ≤ 127 then some ((p : Int) + l.transpose).toNat else none
    ∃ t, exec (.scanCompletion buttons tabs chins) s = .next t ∧
      t.rsa = s.rsa ∧ t.bwu = s.bwu ∧ t.blr = s.blr ∧ t.exu = s.exu ∧
      t.act = { s.act with activity := .playing, hush := 0 } ∧
      t.ksu = { s.ksu with
        buttons := t.ksu.buttons, tabs := t.ksu.tabs, chins := t.ksu.chins, scanPeriod := .us250 } ∧
      (∀ k', k' ≠ k → s.vbc.bus ≠ .running → t.record? k' = s.record? k') ∧
      (s.record? k = none → s.sdt.records.length < 96 → s.vbc.bus ≠ .running →
        t.htm = { s.htm with holds := s.htm.holds ++
          [{ button := b, pitches := [p], pressTime := BitVec.ofNat 32 (s.frameTicks / 4) }] } ∧
        t.record? k = some
          { key := k, holders := [b], stamp := s.sdt.serial, generation := s.rsa.generation
            slots := s.rsa.treble.layers.map fun l =>
              { layer := l, soundingPitch := pitch l, status := if pitch l = none then .skipped else .waiting
                override := none, mute := false } } ∧
        t.sdt.records.length = s.sdt.records.length + 1 ∧ t.sdt.serial = s.sdt.serial + 1 ∧
        t.val = { s.val with waiting := s.val.waiting ++
          (List.range s.rsa.treble.layers.length).filterMap fun j =>
            if (s.rsa.treble.layers[j]?.bind pitch).isSome then some { key := k, slot := j } else none } ∧
        t.vbc = s.roused.vbc ∧ t.cpt = s.roused.cpt) ∧
      (s.record? k = none → 96 ≤ s.sdt.records.length →
        t.htm = { s.htm with holds := s.htm.holds ++
          [{ button := b, pitches := [], pressTime := BitVec.ofNat 32 (s.frameTicks / 4) }] } ∧
        t.sdt = s.sdt ∧ t.val = s.val ∧ t.vbc = s.roused.vbc ∧ t.cpt = (s.roused.setNotice .recordFull).cpt) ∧
      ∀ x, s.record? k = some x → b ∉ x.holders →
        t.htm = { s.htm with holds := s.htm.holds ++
          [{ button := b, pitches := if x.holders.length < 8 then [p] else []
             pressTime := BitVec.ofNat 32 (s.frameTicks / 4) }] } ∧
        t.sdt.serial = s.sdt.serial ∧ (∀ k', k' ≠ k → t.record? k' = s.record? k') ∧
        t.val = { s.val with voices := t.val.voices } ∧ t.vbc = { s.roused.vbc with sendList := t.vbc.sendList } ∧
        (8 ≤ x.holders.length → t.sdt = s.sdt ∧ t.val = s.val ∧ t.vbc = s.roused.vbc ∧
          t.cpt = (s.roused.setNotice .holderFull).cpt) ∧
        (x.holders.length < 8 → t.record? k = some { x with holders := x.holders ++ [b] } ∧ t.cpt = s.roused.cpt) ∧
        (0 < x.holders.length → t.val = s.val ∧ t.vbc = s.roused.vbc) ∧
        (x.holders = [] → s.TableLaws →
          t.vbc.sendList = s.vbc.sendList ++ ((x.voices.filter fun v => (s.voice v).pending == .none).map fun v =>
            { voice := v, start := none }) ∧
          ∀ v, t.voice v = if (∃ y ∈ x.slots, y.status = .voiced v) ∧ (s.voice v).pending = .none then
            { s.voice v with pending := .accent } else s.voice v)

/-- The release of a treble button ends its hold and takes it from its record's holders. A record with another holder
stays HELD, and with sustain ON one without stays too, SUSTAINED: the slots and voices are untouched. With sustain OFF
the release of the last holder retires the record: it is gone, and its slots leave the Waiting List. Its voices, in
slot order, are RELEASING without an owner: each takes the next stamp as its release stamp and its slot's tail limit
as the length of its tail, and a pending START becomes START_RELEASE while any other pending command becomes RELEASE,
in the place it has in the Send List or at its tail. Other records and other holds stay (R58, R76, R77, R90, R97,
R123). The release of a latent button clears its mark and raises nothing (R7). -/
def Obligations.ReleaseOfAHolderKeepsSustainsOrRetires : Prop :=
  (∀ (s : State) (buttons : BitVec 96) (tabs : BitVec 12) (chins : BitVec 4) (i : Fin 96) (p : Nat) (time : BitVec 32)
    (x : Record),
    s.heldInReset = false → s.act.activity ≠ .setup →
    s.acceptsButtons buttons (BitVec.twoPow 96 i.val) tabs chins → s.ksu.buttons.state.getLsbD i.val = true →
    s.ksu.latentButtons.getLsbD i.val = false →
    s.hold? (.treble i) = some { button := .treble i, pitches := [p], pressTime := time } →
    s.record? { side := .treble, pitch := p } = some x → .treble i ∈ x.holders →
    let rest := x.holders.filter (· ≠ .treble i)
    ∃ t, exec (.scanCompletion buttons tabs chins) s = .next t ∧ t.hold? (.treble i) = none ∧
      (∀ b, b ≠ .treble i → t.hold? b = s.hold? b) ∧ (∀ k, k ≠ x.key → t.record? k = s.record? k) ∧
      t.cpt = s.cpt ∧ t.rsa = s.rsa ∧ t.bwu = s.bwu ∧ t.blr = s.blr ∧ t.exu = s.exu ∧
      t.act.activity = s.act.activity ∧
      t.htm.trebleSustain = s.htm.trebleSustain ∧ t.sdt.serial = s.sdt.serial ∧
      if s.htm.trebleSustain = true ∨ rest ≠ [] then
        t.record? x.key = some { x with holders := rest } ∧ t.val = s.val ∧ t.vbc = s.vbc
      else
        t.record? x.key = none ∧
        (∀ v, (∃ y ∈ x.slots, y.status = .voiced v) → (t.voice v).state = .releasing ∧ (t.voice v).owner = none) ∧
        (∀ v, ¬ (∃ y ∈ x.slots, y.status = .voiced v) → t.voice v = s.voice v) ∧
        (∀ r ∈ t.val.waiting, r ∈ s.val.waiting ∧
          (r.key = x.key → ∀ y, x.slots[r.slot]? = some y → y.status ≠ .waiting ∧ y.status ≠ .starved)) ∧
        t.vbc = { s.vbc with sendList := t.vbc.sendList } ∧
        (s.TableLaws →
          t.val.stamp = s.val.stamp + BitVec.ofNat 32 x.voices.length ∧
          (∀ y ∈ x.slots, ∀ v, y.status = .voiced v → t.voice v = { s.voice v with
            state := .releasing, owner := none
            pending := if (s.voice v).pending = .start then .startRelease else .release
            releaseStamp := s.val.stamp + BitVec.ofNat 32 (x.voices.idxOf v), tail := .length y.layer.tailLimit }) ∧
          (s.SendListLaw → (∀ y ∈ x.slots, ∀ v, y.status = .voiced v → (s.voice v).pending ≠ .startRelease) →
            t.vbc.sendList = s.vbc.sendList ++ ((x.voices.filter fun v => (s.voice v).pending == .none).map fun v =>
              { voice := v, start := none })))) ∧
  ∀ (s : State) (buttons : BitVec 96) (tabs : BitVec 12) (chins : BitVec 4) (i : Fin 96),
    s.heldInReset = false → s.act.activity ≠ .setup → s.hushed →
    s.acceptsButtons buttons (BitVec.twoPow 96 i.val) tabs chins → s.ksu.buttons.state.getLsbD i.val = true →
    s.ksu.latentButtons.getLsbD i.val = true →
    ∃ t, exec (.scanCompletion buttons tabs chins) s = .next t ∧
      t = { s with ksu := { s.ksu with
        buttons := t.ksu.buttons, tabs := t.ksu.tabs, chins := t.ksu.chins, latentButtons := t.ksu.latentButtons
        scanPeriod := t.ksu.scanPeriod } } ∧
      ∀ j : Fin 96, t.ksu.latentButtons.getLsbD j.val = (s.ksu.latentButtons.getLsbD j.val && decide (j ≠ i))

/-! ## The Sounding Table and its requests -/

/-- FIND answers the record of its key, 115 bytes that name its side, pitch, state, holders, generation, stamp and
slots, each slot with the eleven bytes of its layer snapshot, or NO_RECORD; a side or pitch outside its range is
refused. Nothing changes but the port and the model's count of free values (log 13); a mute that is set reads as 1
(log 30), and the unused bits of the flags and engine mask bytes as 0 (log 22). SCAN answers as FIND does for the
first record at or after its key, treble before bass and by ascending pitch, or NO_RECORD where there is none (R83,
Table 12-7). -/
def Obligations.FindAndScanAnswerRecords : Prop :=
  (∀ (s : State) (side pitch : Byte), s.ready → s.TableLaws →
    (1 < side.toNat ∨ 127 < pitch.toNat →
      exec (.find side pitch) s = .next (s.answered s { status := .badArg, payload := [] })) ∧
    (side.toNat ≤ 1 → pitch.toNat ≤ 127 →
      let k : Key := { side := if side = 0 then .treble else .bass, pitch := pitch.toNat }
      (s.record? k = none →
        exec (.find side pitch) s = .next (s.answered s { status := .noRecord, payload := [] })) ∧
      ∀ x, s.record? k = some x → ∃ p : List Byte,
        exec (.find side pitch) s =
          .next (s.answered { s with freeCount := s.freeCount + 4 } { status := .ok, payload := p }) ∧
        p.length = 115 ∧ p[0]? = some side ∧ p[1]? = some pitch ∧
        p[2]? = some (if x.holders = [] then 1 else 0) ∧ p[3]? = some (BitVec.ofNat 8 x.holders.length) ∧
        natOfBytes ((p.drop 4).take 2) = x.generation.toNat ∧ natOfBytes ((p.drop 6).take 4) = x.stamp.toNat ∧
        p[50]? = some (BitVec.ofNat 8 x.slots.length) ∧
        (∀ j y, x.slots[j]? = some y →
          natOfBytes ((p.drop (51 + 16 * j)).take 2) = y.layer.timbre % 65536 ∧
          (p.drop (51 + 16 * j + 2)).take 6 =
            [BitVec.ofInt 8 y.layer.transpose, BitVec.ofNat 8 y.layer.curve, BitVec.ofNat 8 y.layer.volume,
              BitVec.ofInt 8 y.layer.tilt, BitVec.ofNat 8 y.layer.priority, y.layer.engineMask.setWidth 8] ∧
          natOfBytes ((p.drop (51 + 16 * j + 8)).take 2) = y.layer.tailLimit % 65536 ∧
          (∀ i, i < 8 → (p.getD (51 + 16 * j + 10) 0).getLsbD i =
            (decide (i = 0) && y.layer.late || decide (i = 1) && y.layer.accent)) ∧
          p.getD (51 + 16 * j + 11) 0 = (y.soundingPitch.map (BitVec.ofNat 8)).getD 0xFF ∧
          p.getD (51 + 16 * j + 12) 0 = y.status.code ∧
          (∀ v, y.status = .voiced v → p.getD (51 + 16 * j + 13) 0 = BitVec.ofNat 8 v.val) ∧
          p.getD (51 + 16 * j + 14) 0 = (y.override.map (BitVec.ofNat 8)).getD 0xFF ∧
          p.getD (51 + 16 * j + 15) 0 = (if y.mute then 1 else 0)) ∧
        ∀ j b, x.holders[j]? = some b →
          p.getD (10 + 5 * j) 0 = (match b with
            | .treble i => BitVec.ofNat 8 i.val
            | .bass n => BitVec.ofNat 8 (128 + n.val)) ∧
          ∀ h, s.hold? b = some h → natOfBytes ((p.drop (11 + 5 * j)).take 4) = h.pressTime.toNat)) ∧
  ∀ (s : State) (side pitch : Byte), s.ready → s.TableLaws →
    (1 < side.toNat ∨ 127 < pitch.toNat →
      exec (.scan side pitch) s = .next (s.answered s { status := .badArg, payload := [] })) ∧
    (side.toNat ≤ 1 → pitch.toNat ≤ 127 →
      let after := fun x : Record => side.toNat < (sideCode x.key.side).toNat ∨
        side = sideCode x.key.side ∧ pitch.toNat ≤ x.key.pitch
      ((∀ x ∈ s.sdt.records, ¬ after x) →
        exec (.scan side pitch) s = .next (s.answered s { status := .noRecord, payload := [] })) ∧
      ∀ x ∈ s.sdt.records, after x → (∀ y ∈ s.sdt.records, after y → x.key.place ≤ y.key.place) →
        exec (.scan side pitch) s = exec (.find (sideCode x.key.side) (BitVec.ofNat 8 x.key.pitch)) s)

/-- ADJUST writes one slot's override and mute, decides its voice's level afresh if it is VOICED, and touches no other
slot and no other voice; it is refused as R84 says. -/
def Obligations.AdjustAmendsOneSlot : Prop :=
  ∀ (s : State) (side pitch slot level mute : Byte), s.ready → s.TableLaws →
    (1 < side.toNat ∨ 127 < pitch.toNat →
      exec (.adjust side pitch slot level mute) s = .next (s.answered s { status := .badArg, payload := [] })) ∧
    (side.toNat ≤ 1 → pitch.toNat ≤ 127 →
      let k : Key := { side := if side = 0 then .treble else .bass, pitch := pitch.toNat }
      let r : SlotRef := { key := k, slot := slot.toNat }
      (s.record? k = none →
        exec (.adjust side pitch slot level mute) s = .next (s.answered s { status := .noRecord, payload := [] })) ∧
      (s.record? k ≠ none → s.slot? r = none →
        exec (.adjust side pitch slot level mute) s = .next (s.answered s { status := .badArg, payload := [] })) ∧
      ∀ y, s.slot? r = some y → ∃ t, exec (.adjust side pitch slot level mute) s = .next t ∧
        t.cpt.response = { status := .ok, payload := [] } ∧
        t.slot? r = some { y with
          override := if level = 0xFF then none else some (min 127 level.toNat), mute := mute != 0 } ∧
        (∀ r', r' ≠ r → t.slot? r' = s.slot? r') ∧
        (∀ v, y.status = .voiced v → (s.voice v).owner = some r → (s.voice v).state = .sounding →
          (t.voice v).target = s.levelOf { y with
            override := if level = 0xFF then none else some (min 127 level.toNat), mute := mute != 0 } ∧
          (t.voice v).dirty = levelDirty s.exu.threshold (t.voice v).target (s.voice v).lastSent) ∧
        (∀ v, y.status ≠ .voiced v → t.voice v = s.voice v) ∧ t.htm = s.htm ∧ t.vbc = s.vbc ∧ t.rsa = s.rsa ∧
        t.val.waiting = s.val.waiting)

/-- RETIRE cut-retires the record of its key: the record is gone, its voices are CUTTING with a CUT pending and no
owner, its pitch leaves every hold of its side, and sustain, other records and the tabs stay; with no record it
answers NO_RECORD, and it is refused as FIND is (R59, R78, R85, R100). -/
def Obligations.RetireCutsTheRecord : Prop :=
  ∀ (s : State) (side pitch : Byte), s.ready →
    (1 < side.toNat ∨ 127 < pitch.toNat →
      exec (.retire side pitch) s = .next (s.answered s { status := .badArg, payload := [] })) ∧
    (side.toNat ≤ 1 → pitch.toNat ≤ 127 →
      let k : Key := { side := if side = 0 then .treble else .bass, pitch := pitch.toNat }
      (s.record? k = none →
        exec (.retire side pitch) s = .next (s.answered s { status := .noRecord, payload := [] })) ∧
      ∀ x, s.record? k = some x → ∃ t, exec (.retire side pitch) s = .next t ∧
        t.cpt.response = { status := .ok, payload := [] } ∧ t.record? k = none ∧
        (∀ k', k' ≠ k → t.record? k' = s.record? k') ∧
        t.htm = { s.htm with holds := s.htm.holds.map fun h =>
          if h.button.side = k.side then { h with pitches := h.pitches.filter (· ≠ k.pitch) } else h } ∧
        (∀ v, (∃ y ∈ x.slots, y.status = .voiced v) →
          (t.voice v).state = .cutting ∧ (t.voice v).pending = .cut ∧ (t.voice v).owner = none ∧
          (t.voice v).tail = .absent ∧ (t.voice v).eligibleFrom = none ∧ (t.voice v).side = (s.voice v).side ∧
          (t.voice v).tag = (s.voice v).tag) ∧
        (∀ v, ¬ (∃ y ∈ x.slots, y.status = .voiced v) → t.voice v = s.voice v) ∧
        t.cpt.notices = s.cpt.notices ∧ t.rsa = s.rsa ∧ t.ksu = s.ksu ∧ t.blr = s.blr ∧ t.bwu = s.bwu ∧ t.exu = s.exu ∧
        t.act = s.act ∧ t.vbc = { s.vbc with sendList := t.vbc.sendList })

/-- SILENCE leaves no record and no tail on the sides it names, keeps every hold and both sustain states, and leaves
the records of the other side as they are; another side value is refused (R86). The voices of the silenced records
are CUTTING with a CUT pending and no owner, as are those of the tails; no other voice changes; the silenced pitches
leave the holds, and the silenced slots the Waiting List (R59, R78). The voices that had nothing pending join the
Send List's tail, those of the records in enumeration order and then the tails by ascending id, and any other keeps
its place (R86, R123). -/
def Obligations.SilenceEmptiesTheSidesNamed : Prop :=
  ∀ (s : State) (side : Byte), s.ready →
    (2 < side.toNat → exec (.silence side) s = .next (s.answered s { status := .badArg, payload := [] })) ∧
    (side.toNat ≤ 2 →
      let named := fun x : Side => side = 2 ∨ side = sideCode x
      ∃ t, exec (.silence side) s = .next t ∧ t.cpt.response = { status := .ok, payload := [] } ∧
        (∀ x ∈ t.sdt.records, ¬ named x.key.side) ∧
        (∀ k, ¬ named k.side → t.record? k = s.record? k) ∧
        (∀ v, named (t.voice v).side → (t.voice v).state ≠ .releasing) ∧
        (∀ v, (s.voice v).state = .releasing → named (s.voice v).side →
          (t.voice v).state = .cutting ∧ (t.voice v).pending = .cut ∧ (t.voice v).tail = .absent) ∧
        t.htm.holds = (s.htm.holds.map fun h => { h with pitches := h.pitches.filter fun p =>
          !(decide (named h.button.side) && (s.record? { side := h.button.side, pitch := p }).isSome) }) ∧
        (s.TableLaws →
          let cut := fun v => { s.voice v with
            state := .cutting, owner := none, pending := .cut, eligibleFrom := none, tail := .absent }
          let sounding := (s.sdt.records.filter fun x => decide (named x.key.side)).flatMap Record.voices
          let tails := (List.finRange 128).filter fun v =>
            decide ((s.voice v).state = .releasing ∧ named (s.voice v).side)
          (∀ v, t.voice v = if v ∈ sounding ∨ v ∈ tails then cut v else s.voice v) ∧
          t.val.waiting = (s.val.waiting.filter fun r => !decide (named r.key.side)) ∧
          (s.VoiceLaws → t.vbc.sendList.map (·.voice) = s.vbc.sendList.map (·.voice) ++
            (sounding ++ tails).filter fun v => (s.voice v).pending == .none)) ∧
        t.htm.trebleSustain = s.htm.trebleSustain ∧ t.htm.bassSustain = s.htm.bassSustain ∧
        t.cpt.notices = s.cpt.notices ∧ t.rsa = s.rsa ∧ t.ksu = s.ksu ∧ t.blr = s.blr ∧ t.bwu = s.bwu)

/-! ## Voices -/

/-- What an allocation takes: a FREE available voice of the allowed engine with the most of them, the lowest engine
on a tie, its lowest local number; without one the tail with the oldest release stamp; without one a SOUNDING voice
of the lowest priority below the slot's, the oldest start stamp among those; and otherwise none (R91, R92). So a
press with the bus RUNNING and one layer: its slot is VOICED with the voice taken, which sounds for it with a START
pending (R93). With no voice taken the slot is STARVED, an entry at the Waiting List's tail, where its layer is LATE
and EMPTY where not, and STARVED is set (R96). A slot whose voice was stolen is STARVED and waits, or is served at
once by a FREE voice, where its layer is LATE, and is EMPTY where not; left without a voice it sets STARVED (R95,
R104). The grant comes before the victim is served, and so takes the first of the two stamps (log 17). -/
def Obligations.AllocationTakesVoicesInOrder : Prop :=
  (∀ (s : State) (mask : BitVec 4) (p : Nat),
    let usable := fun v => s.allowed mask (engineOf v) = true ∧ s.available v = true
    let free := fun v => usable v ∧ (s.voice v).state = .free
    let tail := fun v => usable v ∧ (s.voice v).state = .releasing
    let lower := fun v (q : Nat) => usable v ∧ q < p ∧ ∃ x, s.ownerSlot v = some x ∧ x.layer.priority = q
    match s.chooseVoice mask p with
    | none => (∀ v, ¬ free v ∧ ¬ tail v) ∧ ∀ v q, ¬ lower v q
    | some v =>
      (free v ∧ (∀ w, free w → engineOf w = engineOf v → v ≤ w) ∧
        ∀ e, s.allowed mask e = true → (s.freeVoices e).length ≤ (s.freeVoices (engineOf v)).length ∧
          ((s.freeVoices e).length = (s.freeVoices (engineOf v)).length → engineOf v ≤ e)) ∨
      ((∀ w, ¬ free w) ∧ tail v ∧ ∀ w, tail w → (s.voice v).releaseStamp.toNat ≤ (s.voice w).releaseStamp.toNat) ∨
      ((∀ w, ¬ free w ∧ ¬ tail w) ∧ ∃ q, lower v q ∧ ∀ w q', lower w q' →
        q < q' ∨ q = q' ∧ (s.voice v).startStamp.toNat ≤ (s.voice w).startStamp.toNat)) ∧
  ∀ (s : State) (buttons : BitVec 96) (tabs : BitVec 12) (chins : BitVec 4) (i : Fin 96) (p : Nat) (l : Layer),
    s.pressesAlone buttons tabs chins i p → s.TableLaws → s.vbc.bus = .running →
    let r : SlotRef := { key := { side := .treble, pitch := p }, slot := 0 }
    s.record? r.key = none → s.sdt.records.length < 96 → s.rsa.treble.layers = [l] →
    0 ≤ (p : Int) + l.transpose → (p : Int) + l.transpose ≤ 127 → l.engineMask &&& s.presentMask ≠ 0 →
    let x : Slot :=
      { layer := l, soundingPitch := some ((p : Int) + l.transpose).toNat, status := .empty, override := none
        mute := false }
    ∃ t, exec (.scanCompletion buttons tabs chins) s = .next t ∧ (t.record? r.key).map (·.slots.length) = some 1 ∧
      match s.chooseVoice l.engineMask l.priority with
      | none =>
        t.slot? r = some { x with status := if l.late then .starved else .empty } ∧
        t.val = { s.val with waiting := s.val.waiting ++ if l.late then [r] else [] } ∧
        t.cpt = (s.roused.setNotice .starved).cpt ∧ t.vbc = s.vbc ∧ ∀ r', r' ≠ r → t.slot? r' = s.slot? r'
      | some v =>
        t.slot? r = some { x with status := .voiced v } ∧
        t.voice v = { s.voice v with
          state := .sounding, owner := some r, side := .treble, tag := (s.voice v).tag + 1, pending := .start
          eligibleFrom := none, target := s.levelOf x, startStamp := s.val.stamp, tail := .absent } ∧
        match s.ownerSlot v, (s.voice v).owner with
        | some y, some victim =>
          (y.layer.late = false → t.slot? victim = some { y with status := .empty } ∧ t.val.waiting = s.val.waiting ∧
            t.cpt = (s.roused.setNotice .starved).cpt) ∧
          (y.layer.late = true → match s.chooseFree y.layer.engineMask with
            | none => t.slot? victim = some { y with status := .starved } ∧
              t.val.waiting = s.val.waiting ++ [victim] ∧ t.cpt = (s.roused.setNotice .starved).cpt
            | some w => t.slot? victim = some { y with status := .voiced w } ∧ t.val.waiting = s.val.waiting ∧
              (t.voice w).state = .sounding ∧ (t.voice w).owner = some victim ∧ (t.voice w).pending = .start ∧
              t.cpt = s.roused.cpt) ∧
          ∀ r', r' ≠ r → r' ≠ victim → t.slot? r' = s.slot? r'
        | _, _ =>
          (∀ w, w ≠ v → t.voice w = s.voice w) ∧ t.val.waiting = s.val.waiting ∧ t.cpt = s.roused.cpt ∧
          ∀ r', r' ≠ r → t.slot? r' = s.slot? r'

/-- A grant makes the voice SOUNDING for the slot and the slot VOICED with it, with a new tag, the next stamp, a
pending START and the slot's level as its target; the voice keeps its place in the Send List or joins its tail (R90,
R93, R123). -/
def Obligations.GrantGivesTheVoiceToTheSlot : Prop :=
  ∀ (s : State) (v : Fin 128) (r : SlotRef) (x : Slot), s.slot? r = some x →
    let t := s.grant v r
    t.voice v = { s.voice v with
      state := .sounding, owner := some r, side := r.key.side, tag := (s.voice v).tag + 1, pending := .start
      eligibleFrom := none, target := s.levelOf x, startStamp := s.val.stamp, tail := .absent } ∧
    t.slot? r = some { x with status := .voiced v } ∧ t.val.stamp = s.val.stamp + 1 ∧
    (∀ w, w ≠ v → t.voice w = s.voice w) ∧ (∀ r', r' ≠ r → t.slot? r' = s.slot? r') ∧
    t.val.waiting = s.val.waiting ∧ t.cpt = s.cpt ∧
    let contents : StartContents := { timbre := x.layer.timbre, pitch := x.soundingPitch.getD 0 }
    t.vbc = { s.vbc with sendList :=
      if (s.voice v).pending = .none then s.vbc.sendList ++ [{ voice := v, start := some contents }]
      else s.vbc.sendList.map fun e => if e.voice = v then { voice := v, start := some contents } else e }

/-- TAIL_EXPIRY of a RELEASING voice whose tail has its moment cuts it: CUTTING, CUT pending at the Send List's tail,
no deadline, TAIL_OVERRUN set; for a voice that is not in its tail nothing happens (R99, log 1, 2). -/
def Obligations.TailExpiryCutsTheOverrunTail : Prop :=
  ∀ (s : State) (v : Fin 128), s.heldInReset = false → s.hushed →
    (∀ m, (s.voice v).state = .releasing → (s.voice v).tail = .moment m → (s.voice v).pending = .none →
      exec (.tailExpiry v) s = .next (((s.setVoice v { s.voice v with
        state := .cutting, owner := none, pending := .cut, eligibleFrom := none, tail := .absent }).setSendList
        (s.vbc.sendList ++ [{ voice := v, start := none }])).setNotice .tailOverrun)) ∧
    ((s.voice v).state ≠ .releasing → exec (.tailExpiry v) s = .next s)

/-- A valid DONE in RUNNING: one whose tag differs, or for a voice that is CUTTING or FREE, changes no voice and no
slot; one that matches frees the voice, which keeps its tag and side and leaves the Send List, and makes the slot of a
SOUNDING voice EMPTY (R79, R101). The freed voice goes to the first entry of the Waiting List whose engine mask allows
its engine: it is granted to that slot, with a START at the Send List's tail, and the entry leaves (R93, R103). -/
def Obligations.DoneFreesTheVoiceOfItsTag : Prop :=
  ∀ (s : State) (f : BitVec 56) (e : Fin 4) (n : Nat) (tag : BitVec 2), s.heldInReset = false → s.BusLaws →
    s.vbc.bus = .running → s.vbc.answer = .awaiting →
    (∀ i : Fin 4, (s.engine i).present = true → f.getLsbD i.val = true) →
    reportOf (f.extractLsb' 8 48) = some (.done e n tag) →
    let v := voiceOf e n
    let lost := fun r : SlotRef => (s.voice v).state = .sounding ∧ (s.voice v).owner = some r
    let emptied := fun r : SlotRef => (s.slot? r).map fun y => { y with status := .empty }
    ∃ t, exec (.upstreamAnswer f) s = .next t ∧ t.vbc.echo = f.extractLsb' 8 48 ∧ t.vbc.answer = .answered ∧
      (∀ w, w ≠ v → t.voice w = s.voice w) ∧ t.htm = s.htm ∧ t.rsa = s.rsa ∧ t.cpt = s.cpt ∧ t.ksu = s.ksu ∧
      t.bwu = s.bwu ∧ t.blr = s.blr ∧
      if (s.voice v).tag = tag ∧ ((s.voice v).state = .releasing ∨ (s.voice v).state = .sounding) then
        match s.firstWaiting v with
        | none =>
          t.voice v = { s.voice v with
            state := .free, owner := none, pending := .none, eligibleFrom := none, tail := .absent } ∧
          t.vbc.sendList = s.vbc.sendList.filter (fun x => x.voice ≠ v) ∧ t.val.waiting = s.val.waiting ∧
          (∀ r, lost r → t.slot? r = emptied r) ∧ ∀ r, (s.voice v).owner ≠ some r → t.slot? r = s.slot? r
        | some q => ∃ y, s.slot? q = some y ∧ t.voice v = s.grantedVoice v q y ∧
          t.slot? q = some { y with status := .voiced v } ∧
          t.vbc.sendList = s.vbc.sendList.filter (fun x => x.voice ≠ v) ++ [{ voice := v, start := some y.contents }] ∧
          t.val.waiting = s.val.waiting.filter (· ≠ q) ∧ t.val.stamp = s.val.stamp + 1 ∧
          (∀ r, r ≠ q → lost r → t.slot? r = emptied r) ∧
          ∀ r, r ≠ q → (s.voice v).owner ≠ some r → t.slot? r = s.slot? r
      else t.voice v = s.voice v ∧ t.sdt = s.sdt ∧ t.vbc.sendList = s.vbc.sendList ∧ t.val.waiting = s.val.waiting

/-! ## Expression -/

/-- The volume step is the floor of R111, the nearest whole number with an exact half rounded down, and passes the
curve unchanged at 127; the tilt correction is the quotient rounded toward minus infinity, within −34..30, with the
values of Table 7-1, 0 at middle C, and at a tilt of +1 lowers every pitch below middle C and raises those from 76 on
(R111, R112). -/
def Obligations.VolumeAndTiltStepsAreAsStated : Prop :=
  (∀ c volume : Nat, c ≤ 127 → volume ≤ 127 →
    volumeStep c volume = (c * volume + 63) / 127 ∧ 63 ≤ c * volume + 63 ∧ c * volume + 63 ≤ 16192 ∧
    2 * (volumeStep c volume * 127) ≤ 2 * (c * volume) + 126 ∧
      2 * (c * volume) < 2 * (volumeStep c volume * 127) + 128 ∧
    volumeStep c 127 = c ∧ volumeStep c 0 = 0 ∧ volumeStep 0 volume = 0 ∧ volumeStep c volume ≤ 127) ∧
  (∀ (tilt : Int) (pitch : Nat), -8 ≤ tilt → tilt ≤ 7 → pitch ≤ 127 →
    16 * tiltStep tilt pitch ≤ tilt * ((pitch : Int) - 60) ∧
    tilt * ((pitch : Int) - 60) < 16 * tiltStep tilt pitch + 16 ∧
    -34 ≤ tiltStep tilt pitch ∧ tiltStep tilt pitch ≤ 30 ∧ tiltStep tilt 60 = 0 ∧
    (0 < tilt → (60 < pitch → 0 ≤ tiltStep tilt pitch) ∧ (pitch < 60 → tiltStep tilt pitch ≤ -1)) ∧
    (tilt < 0 → (60 < pitch → tiltStep tilt pitch ≤ -1) ∧ (pitch < 60 → 0 ≤ tiltStep tilt pitch)) ∧
    (0 < tiltStep 1 pitch ↔ 76 ≤ pitch)) ∧
  tiltStep 7 127 = 29 ∧ tiltStep 7 0 = -27 ∧ tiltStep (-8) 0 = 30 ∧ tiltStep (-8) 127 = -34 ∧ tiltStep 2 72 = 1 ∧
  tiltStep 2 48 = -2 ∧ tiltStep 1 61 = 0 ∧ tiltStep 1 59 = -1

/-- The curve value lies between the two points of its segment, is the first of them at its start, and is 126 at full
bellows on the default curve (R110). The target level is the first that applies: mute gives 0, an override replaces
the bellows path, v = 0 is silent whatever the tilt, and otherwise v + t within 0..127 (R113). The dirty flag is set
exactly where the target is at least the threshold from the level last sent, or is 0 or 127 and differs from it
(R115). -/
def Obligations.LevelsFollowTheirSteps : Prop :=
  (∀ (y : Vector Nat 9) (n : Nat), n ≤ 16368 → (∀ i : Fin 9, y[i] ≤ 127) →
    let i := n / 16 / 128
    let r := n / 16 % 128
    128 * (curveValue y n : Int) ≤ 128 * (y.getD i 0 : Int) + ((y.getD (i + 1) 0 : Int) - y.getD i 0) * r ∧
    128 * (y.getD i 0 : Int) + ((y.getD (i + 1) 0 : Int) - y.getD i 0) * r < 128 * (curveValue y n : Int) + 128 ∧
    min (y.getD i 0) (y.getD (i + 1) 0) ≤ curveValue y n ∧ curveValue y n ≤ max (y.getD i 0) (y.getD (i + 1) 0) ∧
    (r = 0 → curveValue y n = y.getD i 0) ∧ curveValue y n ≤ 127) ∧
  curveValue defaultCurve 16368 = 126 ∧
  (∀ (y : Vector Nat 9) (n : Nat) (x : Slot) (pitch : Nat), x.soundingPitch = some pitch →
    (x.mute = true → slotLevel y n x = 0) ∧
    (x.mute = false → ∀ level, x.override = some level → slotLevel y n x = level) ∧
    (x.mute = false → x.override = none → volumeStep (curveValue y n) x.layer.volume = 0 → slotLevel y n x = 0) ∧
    (x.mute = false → x.override = none → volumeStep (curveValue y n) x.layer.volume ≠ 0 →
      (slotLevel y n x : Int) =
        max 0 (min 127 ((volumeStep (curveValue y n) x.layer.volume : Int) + tiltStep x.layer.tilt pitch)))) ∧
  ∀ threshold target lastSent : Nat,
    levelDirty threshold target lastSent = true ↔
      (threshold : Int) ≤ |(target : Int) - lastSent| ∨ (target = 0 ∨ target = 127) ∧ target ≠ lastSent

/-! ## The voice bus -/

/-- WAKING, RUNNING and CLOSING build their own kind of frame at a tick that began in that state and still owes its
frame, WAKING at a millisecond tick: 41 bytes with the echo buffer and a check over the 39 before it, and the answer
window opens. A window that is still unanswered closes first: the echo buffer becomes idle, so that the frame echoes
six bytes of 0xFF, and every PRESENT engine is counted absent once more (the eighth absence has a statement of its
own). WAKE and CLOSE frames carry eight NOOP units and change nothing else; in another bus state nothing is built, and
no tick passes (R1, R121, R122, R129, R134, R138, R175, R176, log 1, 6). -/
def Obligations.EachBusStateBuildsItsFrames : Prop :=
  ∀ s : State, s.heldInReset = false → s.hushed →
    (s.vbc.answer = .awaiting → ∀ e, (s.engine e).present = true → (s.engine e).absenceRun < 7) →
    (∀ o, s.openTick = some o → o.frame = true → o.bus = s.vbc.bus →
      let spent : Option OpenTick := some { o with frame := false }
      let closed : Vbc := if s.vbc.answer = .awaiting then
          { s.vbc with
            echo := BitVec.allOnes 48
            engines := s.vbc.engines.map fun x => if x.present then { x with absenceRun := x.absenceRun + 1 } else x }
        else s.vbc
      (s.vbc.bus = .waking → s.frameTicks % 4 = 0 →
        ∃ bytes, isFrame 0x02 closed.echo bytes ∧ areaOf bytes = List.replicate 32 0 ∧
          exec .wakeFrame s =
            .next { s with openTick := spent, vbc := { closed with downstream := bytes, answer := .awaiting } }) ∧
      (s.vbc.bus = .closing →
        ∃ bytes, isFrame 0x03 closed.echo bytes ∧ areaOf bytes = List.replicate 32 0 ∧
          exec .closeFrame s =
            .next { s with openTick := spent, vbc := { closed with downstream := bytes, answer := .awaiting } }) ∧
      (s.vbc.bus = .running → ∃ t, exec .normalFrame s = .next t ∧ isFrame 0x01 closed.echo t.vbc.downstream ∧
        t.vbc.answer = .awaiting ∧ t.vbc.bus = .running ∧ t.vbc.echo = closed.echo ∧ t.vbc.engines = closed.engines ∧
        t.openTick = spent ∧ t.frameTicks = s.frameTicks ∧
        t.htm = s.htm ∧ t.rsa = s.rsa ∧ t.ksu = s.ksu ∧ t.blr = s.blr ∧ t.bwu = s.bwu ∧ t.cpt = s.cpt)) ∧
    (s.vbc.bus ≠ .waking → exec .wakeFrame s = .next s) ∧ (s.vbc.bus ≠ .closing → exec .closeFrame s = .next s) ∧
    (s.vbc.bus ≠ .running → exec .normalFrame s = .next s)

/-- Placing the one entry of the Send List in a NORMAL frame has the effects of Table 8-2: START and ACCENT send the
target level, RELEASE starts the tail toward its moment, a RELEASE not yet eligible waits, CUT frees the voice, which
goes to the first entry of the Waiting List whose engine mask allows its engine and is granted to that slot with a
START for a later frame (R93, R103). No CLEAR is pending and no voice is dirty, so that the frame, built at a tick
that owes one (log 6), carries this command alone (R98, R99, R125, R127). -/
def Obligations.PlacementHasItsEffectsOnTheVoice : Prop :=
  ∀ (s : State) (v : Fin 128) (c : Option StartContents) (o : OpenTick), s.heldInReset = false → s.vbc.bus = .running →
    s.openTick = some o → o.frame = true → o.bus = .running → s.vbc.answer ≠ .awaiting → s.vbc.clearPending = 0 →
    (s.engine (engineOf v)).present = true →
    s.vbc.sendList = [{ voice := v, start := c }] → (∀ w, (s.voice w).dirty = false) →
    let x := s.voice v
    let soon := s.frameTicks + 4 * s.val.minSounding
    ∃ t, exec .normalFrame s = .next t ∧ (∀ w, w ≠ v → t.voice w = s.voice w) ∧ t.cpt = s.cpt ∧
      t.vbc.rotation = s.vbc.rotation ∧ t.htm = s.htm ∧ t.rsa = s.rsa ∧
      (x.pending ≠ .cut ∨ s.firstWaiting v = none → t.sdt = s.sdt ∧ t.val.waiting = s.val.waiting) ∧
      match x.pending with
      | .none => t.voice v = x ∧ t.vbc.sendList = s.vbc.sendList
      | .start =>
        t.voice v = { x with lastSent := x.target, dirty := false, pending := .none, eligibleFrom := some soon } ∧
        t.vbc.sendList = [] ∧ ∀ y, c = some y → (areaOf t.vbc.downstream).take 12 =
          [0x10, BitVec.ofNat 8 v.val, x.tag.setWidth 8, BitVec.ofNat 8 y.pitch, BitVec.ofNat 8 x.target,
            BitVec.ofNat 8 y.timbre, BitVec.ofNat 8 (y.timbre / 256), 0, 0, 0, 0, 0]
      | .startRelease =>
        t.voice v = { x with lastSent := x.target, dirty := false, pending := .release, eligibleFrom := some soon } ∧
        t.vbc.sendList = [{ voice := v, start := none }] ∧ (areaOf t.vbc.downstream).head? = some 0x10
      | .release =>
        if ∃ m, x.eligibleFrom = some m ∧ s.frameTicks < m then
          t.voice v = x ∧ t.vbc.sendList = s.vbc.sendList ∧ areaOf t.vbc.downstream = List.replicate 32 0
        else
          (∀ ms, x.tail = .length ms → t.voice v =
            { x with pending := .none, tail := .moment (s.frameTicks + 4 * ms), eligibleFrom := none }) ∧
          t.vbc.sendList = [] ∧ (areaOf t.vbc.downstream).take 4 = [0x20, BitVec.ofNat 8 v.val, 0, 0]
      | .cut =>
        areaOf t.vbc.downstream = [0x30, BitVec.ofNat 8 v.val, 0, 0] ++ List.replicate 28 0 ∧
        match s.firstWaiting v with
        | none => t.voice v =
            { x with state := .free, owner := none, pending := .none, eligibleFrom := none, tail := .absent } ∧
          t.vbc.sendList = []
        | some q => ∃ y, s.slot? q = some y ∧ t.voice v = s.grantedVoice v q y ∧
          t.slot? q = some { y with status := .voiced v } ∧ (∀ r, r ≠ q → t.slot? r = s.slot? r) ∧
          t.vbc.sendList = [{ voice := v, start := some y.contents }] ∧
          t.val.waiting = s.val.waiting.filter (· ≠ q) ∧ t.val.stamp = s.val.stamp + 1
      | .accent =>
        t.voice v = { x with lastSent := x.target, dirty := false, pending := .none } ∧ t.vbc.sendList = [] ∧
        (areaOf t.vbc.downstream).take 4 = [0x50, BitVec.ofNat 8 v.val, BitVec.ofNat 8 x.target, 0]

/-- A NORMAL frame built at a tick that owes one (log 6) carries a CLEAR for each PRESENT engine of the CLEAR-pending
set first, ascending, and takes it out of the set. Then the Send List's entries are taken in order: one whose engine
is ABSENT or whose RELEASE is not yet eligible is passed over, each other places its command, three units for a START
and one for any other, and the first that does not fit ends the visit, so that it and all after it stay. Each voice
placed has nothing pending, or RELEASE after a START_RELEASE, and leaves the list unless that RELEASE keeps its place.
Nothing waits here, so that a CUT voice serves none (R98, R123, R124, R125, R127). -/
def Obligations.FramePlacesClearsThenTheSendListInOrder : Prop :=
  ∀ (s : State) (o : OpenTick), s.heldInReset = false → s.vbc.bus = .running → s.openTick = some o → o.frame = true →
    o.bus = .running → s.vbc.answer ≠ .awaiting → s.SendListLaw → s.val.waiting = [] →
    let present := fun e => (s.engine e).present
    let clears := (List.finRange 4).filter fun e => s.vbc.clearPending.getLsbD e.val && present e
    let starts := fun v => (s.voice v).pending == .start || (s.voice v).pending == .startRelease
    let early := fun v => (s.voice v).pending == .release && (s.voice v).eligibleFrom.any fun m => s.frameTicks < m
    let units := fun (l : List (Fin 128)) => (l.map fun v => if starts v then 3 else 1).sum
    ∃ placed left t,
      (s.vbc.sendList.map (·.voice)).filter (fun v => present (engineOf v) && !early v) = placed ++ left ∧
      units placed + clears.length ≤ 8 ∧ (∀ v, left.head? = some v → 8 < units (placed ++ [v]) + clears.length) ∧
      exec .normalFrame s = .next t ∧
      (∀ e : Fin 4, t.vbc.clearPending.getLsbD e.val = (s.vbc.clearPending.getLsbD e.val && !present e)) ∧
      (clears.flatMap (fun e => [0x60, BitVec.ofNat 8 e.val, 0, 0]) ++
        placed.flatMap fun v => ((s.commandFor v).map BusCommand.bytes).getD []) <+: areaOf t.vbc.downstream ∧
      (∀ v, (t.voice v).pending =
        if v ∈ placed then (if (s.voice v).pending = .startRelease then .release else .none)
        else (s.voice v).pending) ∧
      t.vbc.sendList.map (·.voice) =
        (s.vbc.sendList.map (·.voice)).filter fun v =>
          decide (v ∉ placed) || (s.voice v).pending == .startRelease

/-- With no CLEAR pending and an empty Send List, a NORMAL frame built at a tick that owes one (log 6) carries the
levels of the first eight dirty SOUNDING voices from the rotation pointer up and round; the pointer follows the last
of them, and no other voice changes (R126, R127). -/
def Obligations.LevelsGoRoundFromTheRotationPointer : Prop :=
  ∀ (s : State) (o : OpenTick), s.heldInReset = false → s.vbc.bus = .running → s.openTick = some o → o.frame = true →
    o.bus = .running → s.vbc.answer ≠ .awaiting → s.vbc.clearPending = 0 → s.vbc.sendList = [] →
    let due := fun v => (s.voice v).state == .sounding && (s.voice v).dirty && (s.voice v).pending != .start
    let sent := (((List.range 128).map fun i => s.vbc.rotation + Fin.ofNat 128 i).filter due).take 8
    ∃ t, exec .normalFrame s = .next t ∧
      (∀ v, t.voice v = if v ∈ sent then { s.voice v with lastSent := (s.voice v).target, dirty := false }
        else s.voice v) ∧
      t.vbc.rotation = (match sent.getLast? with
        | some v => v + 1
        | none => s.vbc.rotation) ∧
      (areaOf t.vbc.downstream).take (4 * sent.length) =
        sent.flatMap fun v => [0x40, BitVec.ofNat 8 v.val, BitVec.ofNat 8 (s.voice v).target, 0]

/-- A report field carries a report exactly where it is not the idle field, its six bytes sum to 0xFF, its kind is
JOIN, DONE or LEAVE, its engine is 0..3 and a DONE's local number is 0..31; a JOIN's capacity is clamped to 8..32. An
answer whose field carries none, with every PRESENT engine's bit set, is kept for the echo, closes no window twice and
changes nothing else but the absence runs (R130). -/
def Obligations.ReportFieldIsValidExactlyAsStated : Prop :=
  (∀ (field : BitVec 48) (r : Report),
    reportOf field = some r ↔
      field ≠ BitVec.allOnes 48 ∧
      ((byteAt field 0).toNat + (byteAt field 1).toNat + (byteAt field 2).toNat + (byteAt field 3).toNat +
        (byteAt field 4).toNat + (byteAt field 5).toNat) % 256 = 0xFF ∧
      ∃ e : Fin 4, e.val = (byteAt field 1).toNat ∧
        (byteAt field 0 = 1 ∧ r = .join e (max 8 (min 32 (byteAt field 2).toNat)) ∨
          byteAt field 0 = 2 ∧ (byteAt field 2).toNat ≤ 31 ∧
            r = .done e (byteAt field 2).toNat ((byteAt field 3).setWidth 2) ∨
          byteAt field 0 = 3 ∧ r = .leave e)) ∧
  ∀ (s : State) (f : BitVec 56), s.heldInReset = false → s.hushed → s.vbc.answer = .awaiting →
    (∀ i : Fin 4, (s.engine i).present = true → f.getLsbD i.val = true) → reportOf (f.extractLsb' 8 48) = none →
    exec (.upstreamAnswer f) s = .next { s with vbc := { s.vbc with
      echo := f.extractLsb' 8 48, answer := .answered
      engines := s.vbc.engines.map fun e => if e.present then { e with absenceRun := 0 } else e } }

/-- An upstream frame is taken only in an open window, and only the first. A JOIN of an expected ABSENT engine in
WAKING makes it PRESENT with its capacity and sets ENGINE_JOINED, one of a PRESENT engine replaces its capacity with
no notice, and one of an engine outside the expected mask is discarded. After each the bus runs at once if every
expected engine is PRESENT: the wake timer stops, the attempts are 0, every PRESENT engine is to be cleared and
joined, and its voices are FREE or sound for a waiting slot with a START pending (R105, R134, R136). A LEAVE in WAKING
makes its engine ABSENT with no notice, its absence run 0 (log 18), and so does an absence run that reaches 8 (R129,
R131, R134). -/
def Obligations.AnswersInWakingFindAndLoseEngines : Prop :=
  ∀ (s : State) (f : BitVec 56), s.heldInReset = false → s.hushed →
    (s.vbc.answer ≠ .awaiting → exec (.upstreamAnswer f) s = .next s) ∧
    (s.vbc.answer = .awaiting → s.vbc.bus = .waking → s.BusLaws →
      (∀ i : Fin 4, (s.engine i).present = true → f.getLsbD i.val = true) → ∃ t, exec (.upstreamAnswer f) s = .next t ∧
      t.vbc.echo = f.extractLsb' 8 48 ∧ t.vbc.answer = .answered ∧ t.ksu = s.ksu ∧ t.htm = s.htm ∧ t.rsa = s.rsa ∧
      (reportOf (f.extractLsb' 8 48) = none → t.vbc.bus = .waking ∧ t.val = s.val ∧ t.cpt = s.cpt ∧
        ∀ i, (t.engine i).present = (s.engine i).present ∧ (t.engine i).capacity = (s.engine i).capacity ∧
          (t.engine i).absenceRun = 0) ∧
      (∀ e capacity, reportOf (f.extractLsb' 8 48) = some (.join e capacity) → s.vbc.expected.getLsbD e.val = true →
        (s.engine e).present = false →
        (∃ o : Fin 4, o ≠ e ∧ s.vbc.expected.getLsbD o.val = true ∧ (s.engine o).present = false) →
        t.vbc.bus = .waking ∧ t.engine e = { present := true, capacity := capacity, absenceRun := 0 } ∧
        t.noticeSet .engineJoined = true ∧ t.val = s.val ∧
        ∀ i, i ≠ e → (t.engine i).present = (s.engine i).present) ∧
      (∀ e capacity, reportOf (f.extractLsb' 8 48) = some (.join e capacity) →
        (s.vbc.expected.getLsbD e.val = true → (s.engine e).present = true) →
        (∃ o : Fin 4, s.vbc.expected.getLsbD o.val = true ∧ (s.engine o).present = false) →
        t = { s with vbc := { s.vbc with
          echo := f.extractLsb' 8 48, answer := .answered, engines := Vector.ofFn fun i : Fin 4 =>
            if (s.engine i).present then
              { present := true, absenceRun := 0, capacity :=
                  if i = e ∧ s.vbc.expected.getLsbD e.val = true then capacity else (s.engine i).capacity }
            else s.engine i } }) ∧
      (∀ e capacity, reportOf (f.extractLsb' 8 48) = some (.join e capacity) → s.Lawful →
        (∀ o : Fin 4, s.vbc.expected.getLsbD o.val = true → (s.engine o).present = true ∨ o = e) →
        let joins := s.vbc.expected.getLsbD e.val
        t.vbc.bus = .running ∧ t.vbc.wakeTimer = none ∧ t.vbc.wakeAttempts = 0 ∧
        (∀ i : Fin 4, t.engine i =
          if i = e ∧ joins = true then { present := true, capacity := capacity, absenceRun := 0 }
          else if (s.engine i).present then { s.engine i with absenceRun := 0 } else s.engine i) ∧
        (∀ i : Fin 4, t.vbc.clearPending.getLsbD i.val = (t.engine i).present ∧
          t.val.joined[i] = (t.engine i).capacity) ∧
        (∀ v, (t.voice v).state = .free ∧ (t.voice v).pending = .none ∨
          (t.voice v).state = .sounding ∧ (t.voice v).pending = .start ∧ t.available v = true ∧
            ∃ r ∈ s.val.waiting, (t.voice v).owner = some r) ∧
        (∀ r ∈ t.val.waiting, r ∈ s.val.waiting) ∧
        t.cpt = (if joins = true ∧ (s.engine e).present = false then s.setNotice .engineJoined else s).cpt ∧
        t.blr = s.blr ∧ t.bwu = s.bwu ∧ t.exu = s.exu ∧ t.act = s.act) ∧
      ∀ e, reportOf (f.extractLsb' 8 48) = some (.leave e) → t.vbc.bus = .waking ∧
        t.engine e = { present := false, capacity := 0, absenceRun := 0 } ∧ t.val = s.val ∧ t.cpt = s.cpt) ∧
    (s.vbc.answer = .awaiting → s.vbc.bus = .waking → s.BusLaws → reportOf (f.extractLsb' 8 48) = none →
      ∃ t, exec (.upstreamAnswer f) s = .next t ∧ t.vbc.bus = .waking ∧ t.val = s.val ∧ t.cpt = s.cpt ∧
        t.vbc.echo = f.extractLsb' 8 48 ∧ t.vbc.answer = .answered ∧ t.vbc.wakeTimer = s.vbc.wakeTimer ∧
        ∀ i : Fin 4, t.engine i =
          if (s.engine i).present = false ∨ f.getLsbD i.val = false ∧ (s.engine i).absenceRun = 7 then
            { present := false, capacity := 0, absenceRun := 0 }
          else { s.engine i with absenceRun := if f.getLsbD i.val then 0 else (s.engine i).absenceRun + 1 })

/-- In RUNNING an absence run below 7 is only counted. An engine is lost by a LEAVE, or when its absence run reaches
8: ABSENT, out of the CLEAR-pending set, no longer joined, its voices FREE with their tags and sides, the slots they
sounded for WAITING or VOICED on another engine, ENGINE_LOST set. A LEAVE of an ABSENT engine and a JOIN outside the
expected mask are discarded. A JOIN of an expected engine, ABSENT or PRESENT, makes it PRESENT with its capacity, to
be cleared, joined, its voices FREE or sounding anew with a START pending, ENGINE_JOINED set. The frame that closes an
unanswered window counts as an answer of the idle field with every bit absent (R105, R106, R129, R134, R138, R140). -/
def Obligations.AnswersInRunningJoinAndLoseEngines : Prop :=
  ∀ (s : State) (f : BitVec 56), s.heldInReset = false → s.Lawful → s.vbc.bus = .running → s.vbc.answer = .awaiting →
    let report := reportOf (f.extractLsb' 8 48)
    let absent : Engine := { present := false, capacity := 0, absenceRun := 0 }
    let counted : Vector Engine 4 := Vector.ofFn fun i =>
      if (s.engine i).present then
        { s.engine i with absenceRun := if f.getLsbD i.val then 0 else (s.engine i).absenceRun + 1 }
      else s.engine i
    let kept := fun e : Fin 4 => (s.engine e).present = true → f.getLsbD e.val = true ∨ (s.engine e).absenceRun < 7
    let discarded := report = none ∨ (∃ e, report = some (.leave e) ∧ (s.engine e).present = false) ∨
      ∃ e n, report = some (.join e n) ∧ s.vbc.expected.getLsbD e.val = false
    ((∀ e, kept e) → discarded → exec (.upstreamAnswer f) s = .next { s with vbc := { s.vbc with
      echo := f.extractLsb' 8 48, answer := .answered, engines := counted } }) ∧
    (∀ e, (s.engine e).present = true → (∀ i, i ≠ e → kept i) →
      report = some (.leave e) ∧ kept e ∨ report = none ∧ f.getLsbD e.val = false ∧ (s.engine e).absenceRun = 7 →
      ∃ t, exec (.upstreamAnswer f) s = .next t ∧ t.noticeSet .engineLost = true ∧ t.vbc.bus = .running ∧
        t.engine e = absent ∧ (∀ i, i ≠ e → t.engine i = counted[i]) ∧
        (∀ i : Fin 4, t.vbc.clearPending.getLsbD i.val = (s.vbc.clearPending.getLsbD i.val && decide (i ≠ e))) ∧
        (∀ i : Fin 4, t.val.joined[i] = if i = e then 0 else s.val.joined[i]) ∧
        (∀ v, engineOf v = e → (t.voice v).state = .free ∧ (t.voice v).owner = none ∧ (t.voice v).pending = .none ∧
          (t.voice v).tag = (s.voice v).tag ∧ (t.voice v).side = (s.voice v).side) ∧
        (∀ v r, engineOf v = e → (s.voice v).owner = some r → ∃ y, t.slot? r = some y ∧
          (y.status = .waiting ∧ r ∈ t.val.waiting ∨ ∃ w, engineOf w ≠ e ∧ y.status = .voiced w)) ∧
        t.htm = s.htm ∧ t.rsa = s.rsa ∧ t.ksu = s.ksu ∧ t.blr = s.blr ∧ t.bwu = s.bwu ∧ t.exu = s.exu ∧
        t.sdt.records.map (fun x => (x.key, x.holders, x.stamp)) =
          s.sdt.records.map fun x => (x.key, x.holders, x.stamp)) ∧
    (∀ e n, report = some (.join e n) → s.vbc.expected.getLsbD e.val = true → (∀ i, kept i) →
      ∃ t, exec (.upstreamAnswer f) s = .next t ∧ t.noticeSet .engineJoined = true ∧ t.vbc.bus = .running ∧
        t.engine e = { present := true, capacity := n, absenceRun := 0 } ∧ (∀ i, i ≠ e → t.engine i = counted[i]) ∧
        (∀ i : Fin 4, t.vbc.clearPending.getLsbD i.val = (s.vbc.clearPending.getLsbD i.val || decide (i = e))) ∧
        (∀ i : Fin 4, t.val.joined[i] = if i = e then n else s.val.joined[i]) ∧
        (∀ v, engineOf v = e → (t.voice v).state = .free ∧ (t.voice v).pending = .none ∨
          (t.voice v).state = .sounding ∧ (t.voice v).pending = .start) ∧
        (∀ v, engineOf v = e → n ≤ localOf v → (t.voice v).state = .free) ∧
        t.htm = s.htm ∧ t.rsa = s.rsa ∧ t.ksu = s.ksu ∧ t.blr = s.blr ∧ t.bwu = s.bwu ∧ t.exu = s.exu) ∧
    (∀ o, s.openTick = some o → o.frame = true → o.bus = .running → f = BitVec.ofNat 56 (2 ^ 56 - 2 ^ 8) →
      ∃ u, exec (.upstreamAnswer f) s = .next u ∧ u.vbc.echo = BitVec.allOnes 48 ∧
        exec .normalFrame s = exec .normalFrame u)

/-- WAKE_TIMER_EXPIRY in WAKING, whatever the timer's count (log 2). With no engine PRESENT the wake fails: QUIET,
BUS_NO_ENGINE, the attempt counted and 32 ms of hold-off; with an engine PRESENT the bus runs, its attempts 0, every
PRESENT engine to be cleared and joined (R135, R136). -/
def Obligations.WakeTimerExpiryFailsOrRuns : Prop :=
  ∀ s : State, s.heldInReset = false → s.vbc.bus = .waking →
    ((∀ e, (s.engine e).present = false) → s.hushed → exec .wakeTimerExpiry s = .next (({ s with vbc := { s.vbc with
      bus := .quiet, echo := BitVec.allOnes 48, answer := .closed, downstream := [], wakeTimer := none
      wakeAttempts := min 255 (s.vbc.wakeAttempts + 1), holdOff := some 32 } } : State).setNotice .busNoEngine)) ∧
    ((∃ e, (s.engine e).present = true) → ∃ t, exec .wakeTimerExpiry s = .next t ∧ t.vbc.bus = .running ∧
      t.vbc.wakeTimer = none ∧ t.vbc.wakeAttempts = 0 ∧ t.htm = s.htm ∧ t.rsa = s.rsa ∧ t.ksu = s.ksu ∧
      t.blr = s.blr ∧ t.bwu = s.bwu ∧ t.vbc.echo = s.vbc.echo ∧ t.vbc.answer = s.vbc.answer ∧
      ∀ e : Fin 4, (t.engine e).present = (s.engine e).present ∧ (t.engine e).capacity = (s.engine e).capacity ∧
        ((s.engine e).present = true → t.vbc.clearPending.getLsbD e.val = true ∧ (t.engine e).absenceRun = 0 ∧
          t.val.joined[e] = (s.engine e).capacity))

/-- The hold-off's end and the close timer's end, whatever their counts (log 2), BUS_OPEN and BUS_CLOSE: where each
takes the bus, with R133's test at each entry to QUIET (R132, R133, R134, R137). -/
def Obligations.BusRequestsAndTimersMoveTheBus : Prop :=
  ∀ s : State, s.heldInReset = false → s.hushed →
    let rest := fun (bus : BusState) (x : State) => ({ x with vbc := { x.vbc with
      bus := bus, echo := BitVec.allOnes 48, answer := .closed, downstream := [] } } : State)
    let tested := fun x : State => if x.act.activity = .playing ∧ x.vbc.holdOff = none then
      ({ x with vbc := { x.vbc with
        bus := .waking, wakeTimer := some x.vbc.wakeTime
        engines := Vector.replicate 4 { present := false, capacity := 0, absenceRun := 0 } } } : State) else x
    (s.vbc.bus = .quiet → s.vbc.holdOff ≠ none →
      exec .holdOffExpiry s = .next (tested { s with vbc := { s.vbc with holdOff := none } })) ∧
    (s.vbc.bus = .closing → exec .closeTimerExpiry s = .next (
      let x : State := { s with vbc := { s.vbc with closeTimer := none } }
      if s.vbc.destination = .quiet then tested (rest .quiet x) else rest .held x)) ∧
    (s.cpt.busy = false → exec .busOpen s = .next (s.answered (match s.vbc.bus with
      | .held => tested (rest .quiet s)
      | .closing => { s with vbc := { s.vbc with destination := .quiet } }
      | _ => s) { status := .ok, payload := [] })) ∧
    (s.cpt.busy = false → s.vbc.bus ≠ .waking → s.vbc.bus ≠ .running →
      exec .busClose s = .next (s.answered (match s.vbc.bus with
        | .quiet => rest .held { s with vbc := { s.vbc with holdOff := none } }
        | .closing => { s with vbc := { s.vbc with destination := .held } }
        | _ => s) { status := .ok, payload := [] })) ∧
    (s.cpt.busy = false → s.vbc.bus = .waking ∨ s.vbc.bus = .running → ∃ t, exec .busClose s = .next t ∧
      t.cpt.response = { status := .ok, payload := [] } ∧ t.cpt.notices = s.cpt.notices ∧ t.vbc.bus = .closing ∧
      t.vbc.destination = .held ∧ t.vbc.wakeTimer = none ∧ t.vbc.closeTimer = some 32 ∧ t.vbc.clearPending = 0 ∧
      (∀ e, t.engine e = { present := false, capacity := 0, absenceRun := 0 } ∧ t.val.joined[e] = 0) ∧
      (∀ v, (t.voice v).state = .free ∧ (t.voice v).tag = (s.voice v).tag ∧ (t.voice v).side = (s.voice v).side) ∧
      (∀ v r, (s.voice v).state = .sounding → (s.voice v).owner = some r → s.slot? r ≠ none →
        (t.slot? r).map (·.status) = some .waiting ∧ r ∈ t.val.waiting) ∧
      t.htm = s.htm ∧ t.rsa = s.rsa)

/-! ## Registrations -/

/-- APPLY with a bad entry or halves is refused. Otherwise it copies the named halves, moves the generation on by one,
and completes at once where neither a named half carries nor a side of a pass in flight has records still unvisited;
or else a pass stands over the union of those sides, owned by this apply, which sets the hush timer to 0 (R157). No
record, reference pattern or table entry changes (R147, R149). -/
def Obligations.ApplyCopiesHalvesAndStartsOrSupersedes : Prop :=
  ∀ (s : State) (entry halves : Byte), s.ready →
    (32 ≤ entry.toNat ∨ 2 < halves.toNat →
      exec (.apply entry halves) s = .next (s.answered s { status := .badArg, payload := [] })) ∧
    ∀ h : entry.toNat < 32, halves.toNat ≤ 2 →
      let named := fun x : Side => halves = 2 ∨ halves = sideCode x
      let carries := fun x : Side => named x ∧ (match x with
        | .treble => s.rsa.table[entry.toNat].treble.mode
        | .bass => s.rsa.table[entry.toNat].bass.mode) = .carry
      let unvisited := fun x : Side => ∃ p, s.rsa.pass = some p ∧ p.sides.has x = true ∧
        ∃ y ∈ s.sdt.records, y.key.side = x ∧ y.generation ≠ s.rsa.generation
      ∃ t, exec (.apply entry halves) s = .next t ∧ t.cpt.response = { status := .accepted, payload := [] } ∧
        (named .treble → t.rsa.treble = { layers := s.rsa.table[entry.toNat].treble.layers, entry := entry.toNat }) ∧
        (¬ named .treble → t.rsa.treble = s.rsa.treble) ∧
        (named .bass → t.rsa.bass = { layers := s.rsa.table[entry.toNat].bass.layers, entry := entry.toNat }) ∧
        (¬ named .bass → t.rsa.bass = s.rsa.bass) ∧ t.rsa.table = s.rsa.table ∧
        t.rsa.generation = s.rsa.generation + 1 ∧ t.sdt = s.sdt ∧ t.val = s.val ∧ t.vbc = s.vbc ∧ t.htm = s.htm ∧
        t.ksu = s.ksu ∧ t.blr = s.blr ∧ t.bwu = s.bwu ∧
        ((∀ x, ¬ carries x ∧ ¬ unvisited x) → t.rsa.pass = none ∧ t.noticeSet .applyDone = true) ∧
        ((∃ x, carries x ∨ unvisited x) → t.cpt.notices = s.cpt.notices ∧
          (s.act.activity = .playing → t.act.hush = 0) ∧ ∃ p, t.rsa.pass = some p ∧ p.owner = t.rsa.generation ∧
            ∀ x, p.sides.has x = true ↔ carries x ∨ unvisited x)

/-- A tick of the pass, taken at a frame tick whose visits are still to be made (log 6), with no record left to visit
completes it and sets APPLY_DONE, and nothing else; with records to visit it gives the current generation to the eight
oldest of them, or to all if they are fewer, and to no other record; every record keeps its key, holders and stamp
(R82, R148). -/
def Obligations.PassTickVisitsTheEightOldest : Prop :=
  ∀ (s : State) (p : Pass) (o : OpenTick), s.heldInReset = false → s.rsa.pass = some p → s.openTick = some o →
    o.visits = true → s.TableLaws → (s.sdt.records.map (·.stamp)).Nodup →
    let stale := fun x : Record => p.sides.has x.key.side = true ∧ x.generation ≠ s.rsa.generation
    ((∀ x ∈ s.sdt.records, ¬ stale x) → s.hushed → ∃ t, exec .applyPassTick s = .next t ∧
      t = { s with
        openTick := some { o with visits := false }, rsa := { s.rsa with pass := none }
        cpt := (s.setNotice .applyDone).cpt }) ∧
    ∃ t, exec .applyPassTick s = .next t ∧ t.sdt.serial = s.sdt.serial ∧ t.htm = s.htm ∧ t.ksu = s.ksu ∧
      t.blr = s.blr ∧ t.bwu = s.bwu ∧ t.rsa.generation = s.rsa.generation ∧ t.frameTicks = s.frameTicks ∧
      t.sdt.records.map (fun x => (x.key, x.holders, x.stamp)) =
        s.sdt.records.map (fun x => (x.key, x.holders, x.stamp)) ∧
      (∀ k x y, s.record? k = some x → t.record? k = some y →
        y.generation =
          if stale x ∧
            (s.sdt.records.filter fun z => decide (stale z) && z.stamp.toNat < x.stamp.toNat).length < 8
          then s.rsa.generation else x.generation) ∧
      (t.rsa.pass = none ↔ (s.sdt.records.filter fun z => decide (stale z)).length ≤ 8)

/-- A visit to a record, the only one left to visit, at a tick whose visits are still to be made (log 6). A slot whose
voice can go on under the new layer keeps it, with its override, mute and pitch: the layer is exchanged and the level
decided afresh (R114, R151). Slots beyond the last layer are disposed of: a voice is released with its slot's tail
limit, an entry leaves the Waiting List. Any other slot is disposed of and built anew from the layer, without override
or mute: WAITING at the Waiting List's tail, or SKIPPED, where the bus is not RUNNING, and by an allocation in RUNNING
(R152). -/
def Obligations.VisitKeepsOrRebuildsTheSlots : Prop :=
  ∀ (s : State) (p : Pass) (o : OpenTick) (x : Record), s.heldInReset = false → s.rsa.pass = some p →
    s.openTick = some o → o.visits = true → s.TableLaws → s.VoiceLaws → s.record? x.key = some x →
    p.sides.has x.key.side = true → x.generation ≠ s.rsa.generation →
    (∀ y ∈ s.sdt.records, p.sides.has y.key.side = true → y.generation ≠ s.rsa.generation → y = x) →
    let layers := (s.current x.key.side).layers
    let pitch := fun l : Layer => soundingPitch x.key.pitch l.transpose
    let keeps := fun (y : Slot) (l : Layer) (v : Fin 128) => y.status = .voiced v ∧
      l.engineMask.getLsbD (engineOf v).val = true ∧ l.timbre = y.layer.timbre ∧ y.soundingPitch ≠ none ∧
      pitch l = y.soundingPitch
    ∃ t x', exec .applyPassTick s = .next t ∧ t.record? x.key = some x' ∧ x'.holders = x.holders ∧ x'.stamp = x.stamp ∧
      x'.generation = s.rsa.generation ∧ x'.slots.length = layers.length ∧ x'.slots.map (·.layer) = layers ∧
      x'.slots.map (·.soundingPitch) = layers.map pitch ∧ t.rsa = { s.rsa with pass := none } ∧
      t.noticeSet .applyDone = true ∧ t.htm = s.htm ∧ t.ksu = s.ksu ∧ t.blr = s.blr ∧ t.bwu = s.bwu ∧ t.exu = s.exu ∧
      ((∀ (j : Nat) (l : Layer), layers[j]? = some l → ∃ y v, x.slots[j]? = some y ∧ keeps y l v) →
        (∀ k, k ≠ x.key → t.record? k = s.record? k) ∧
        (∀ (j : Nat) (y : Slot) (l : Layer), x.slots[j]? = some y → layers[j]? = some l →
          x'.slots[j]? = some { y with layer := l } ∧
          ∀ v, y.status = .voiced v → t.voice v = s.relevelled v { y with layer := l }) ∧
        (∀ (j : Nat) (y : Slot), layers.length ≤ j → x.slots[j]? = some y →
          (∀ v, y.status = .voiced v → (t.voice v).state = .releasing ∧ (t.voice v).owner = none ∧
            (t.voice v).tail = .length y.layer.tailLimit) ∧ ({ key := x.key, slot := j } : SlotRef) ∉ t.val.waiting) ∧
        ∀ v, (∀ y ∈ x.slots, y.status ≠ .voiced v) → t.voice v = s.voice v) ∧
      (s.vbc.bus ≠ .running → (∀ y ∈ x.slots, ∀ v, y.status ≠ .voiced v) →
        x'.slots = layers.map (fun l =>
          { layer := l, soundingPitch := pitch l, status := if pitch l = none then .skipped else .waiting
            override := none, mute := false }) ∧
        t.val = { s.val with waiting := s.val.waiting.filter (fun r => r.key ≠ x.key) ++
          (List.range layers.length).filterMap fun j =>
            if (layers[j]?.bind pitch).isSome then some { key := x.key, slot := j } else none } ∧
        t.vbc = s.vbc ∧ ∀ k, k ≠ x.key → t.record? k = s.record? k) ∧
      ∀ (y : Slot) (v : Fin 128) (l : Layer), x.slots = [y] → layers = [l] → y.status = .voiced v → ¬ keeps y l v →
        let r : SlotRef := { key := x.key, slot := 0 }
        ((t.voice v).state = .releasing ∧ (t.voice v).tail = .length y.layer.tailLimit ∨
          s.vbc.bus = .running ∧ (t.voice v).state = .sounding ∧ (t.voice v).pending = .start ∧
            (t.voice v).tag = (s.voice v).tag + 1) ∧
        ∃ y', x'.slots = [y'] ∧ y'.override = none ∧ y'.mute = false ∧
          match y'.status with
          | .voiced w => s.vbc.bus = .running ∧ (t.voice w).owner = some r ∧ (t.voice w).state = .sounding ∧
            (t.voice w).pending = .start
          | .waiting => (s.vbc.bus ≠ .running ∨ l.engineMask &&& s.presentMask = 0) ∧ r ∈ t.val.waiting
          | .starved => l.late = true ∧ r ∈ t.val.waiting ∧ t.noticeSet .starved = true
          | .empty => l.late = false ∧ t.noticeSet .starved = true
          | .skipped => pitch l = none

/-! ## Playing and resting -/

/-- START in SETUP: PLAYING, every pressed input latent, hush timer 0, and a QUIET bus with no hold-off goes to
WAKING; otherwise refused. WAKE wakes a resting part with WOKE and a wake request, sets the hush timer to 0 in
PLAYING, and is refused in SETUP (R133, R156, R159, R160). -/
def Obligations.StartAndWakeBringThePartToPlaying : Prop :=
  ∀ s : State, s.ready →
    let woken := fun x : State => if x.vbc.bus = .quiet ∧ x.vbc.holdOff = none then
      ({ x with vbc := { x.vbc with
        bus := .waking, wakeTimer := some x.vbc.wakeTime
        engines := Vector.replicate 4 { present := false, capacity := 0, absenceRun := 0 } } } : State) else x
    (s.act.activity = .setup → exec .start s = .next (s.answered (woken { s with
      act := { s.act with activity := .playing, hush := 0 }
      ksu := { s.ksu with
        latentButtons := s.ksu.latentButtons ||| s.ksu.buttons.state
        latentChins := s.ksu.latentChins ||| s.ksu.chins.state }
      blr := { s.blr with latent := s.blr.latent ||| s.blr.image } }) { status := .ok, payload := [] })) ∧
    (s.act.activity ≠ .setup → exec .start s = .next (s.answered s { status := .wrongState, payload := [] })) ∧
    (s.act.activity = .resting → exec .wake s = .next (s.answered
      ((woken { s with act := { s.act with activity := .playing, hush := 0 } }).setNotice .woke)
      { status := .ok, payload := [] })) ∧
    (s.act.activity = .playing → exec .wake s = .next (s.answered { s with act := { s.act with hush := 0 } }
      { status := .ok, payload := [] })) ∧
    (s.act.activity = .setup → exec .wake s = .next (s.answered s { status := .wrongState, payload := [] }))

/-- A quiet millisecond in PLAYING adds one to the hush timer, which stays at 60000; at the hush time × 1000 the
part rests (log 3; the hypotheses say that no other timer is due at this tick). HUSH_EXPIRY takes a quiet PLAYING
part to RESTING with its notice and a close request; a bus in QUIET, HELD or CLOSING is left as it is. Where the
part is not PLAYING, not quiet, never rests or has not counted so far, there is no expiry (R137, R157, R158). A wake
cause that a quiet part takes in PLAYING, in a scan or in a frame, makes the count 0 where a quiet condition fails at
its end, and leaves it where none does (R157, R159); a scan with two RECALLs or more is left open there, since an apply
pass may begin in it and end (R147, R149). While the expiry is due at the millisecond tick that stands the cause comes
before the expiry: the count is 0 and no expiry occurs (R158; which instant is the expiry's is log 28). -/
def Obligations.QuietPartComesToRest : Prop :=
  (∀ s : State, s.pending = [] → s.heldInReset = false → s.act.activity = .playing → s.quiet = true →
    s.openTick = none → (s.frameTicks + 1) % 4 = 0 → s.vbc.bus = .held → s.vbc.wakeTimer = none → s.vbc.holdOff = none →
    s.vbc.closeTimer = none → s.blr.complete = none → s.blr.lossTimer + 1 < s.blr.lossTime →
    s.ksu.group.state = .armed → s.blr.group.state = .armed →
    ∃ t, step s = .next t ∧ t.blr.lossTimer = s.blr.lossTimer + 1 ∧
      if 1 ≤ s.act.hushTime ∧ s.act.hushTime * 1000 ≤ min 60000 (s.act.hush + 1) then
        t.act = { s.act with activity := .resting, hush := 0 } ∧ t.noticeSet .resting = true
      else t.act = { s.act with hush := min 60000 (s.act.hush + 1) } ∧ t.cpt = s.cpt) ∧
  ∀ s : State, s.heldInReset = false → s.hushed →
    (s.act.activity = .playing → s.quiet = true → 1 ≤ s.act.hushTime → s.act.hushTime * 1000 ≤ s.act.hush →
      ∃ t, exec .hushExpiry s = .next t ∧
      t.act = { s.act with activity := .resting, hush := 0 } ∧ t.noticeSet .resting = true ∧ t.htm = s.htm ∧
      t.sdt = s.sdt ∧ t.ksu = s.ksu ∧ t.blr = s.blr ∧ t.bwu = s.bwu ∧ t.rsa = s.rsa ∧
      (s.vbc.bus = .running ∨ s.vbc.bus = .waking → t.vbc.bus = .closing ∧ t.vbc.destination = .quiet ∧
        t.vbc.closeTimer = some 32 ∧ ∀ e, (t.engine e).present = false) ∧
      (s.vbc.bus ≠ .running → s.vbc.bus ≠ .waking → t.vbc = s.vbc ∧ t.val = s.val)) ∧
    (s.act.activity ≠ .playing ∨ s.quiet = false ∨ s.act.hushTime = 0 ∨ s.act.hush < s.act.hushTime * 1000 →
      exec .hushExpiry s = .next s) ∧
    (s.act.activity = .playing → s.quiet = true →
      let atHand := 1 ≤ s.act.hushTime ∧ s.act.hushTime * 1000 ≤ s.act.hush ∧ ∃ o ∈ s.openTick, o.millisecond = true
      let reported := fun (c : Instr) (alone : State → Prop) => ∃ t, exec c s = .next t ∧
        t.act = { s.act with hush := t.act.hush } ∧ (t.act.hush = 0 ∨ t.act.hush = s.act.hush) ∧
        (atHand ∨ t.quiet = false → t.act.hush = 0) ∧
        (¬ atHand → t.quiet = true → alone t → t.act.hush = s.act.hush) ∧ (atHand → exec .hushExpiry t = .next t)
      (∀ buttons tabs chins, s.scanWakes buttons tabs chins → reported (.scanCompletion buttons tabs chins) fun t =>
        t.rsa.generation = s.rsa.generation ∨ t.rsa.generation = s.rsa.generation + 1) ∧
      ∀ f, s.blr.complete = none → s.frameWakes f → reported (.acceptedFrame f) fun _ => True)
end

