-- ==== Sys2Proof/Laws/Clock.lean ====
section
/-! SUPPORT. What the beginning of a frame tick changes, and the tick at which a commanded frame or visit is taken. -/

-- One theorem at a time: many at once ask for more threads than the memory limit of the check allows.
set_option Elab.async false

namespace Sys2Proof.Machine

/-! ## `State.beginTick` -/

@[simp] theorem State.beginTick_frameTicks (s : State) : s.beginTick.frameTicks = s.frameTicks + 1 := rfl

@[simp] theorem State.beginTick_openTick (s : State) :
    s.beginTick.openTick = some
      { bus := s.vbc.bus, frame := true, visits := true, millisecond := (s.frameTicks + 1) % 4 == 0 } := rfl

/-- A tick that is no millisecond tick moves the count of moments alone. -/
theorem State.beginTick_frame (s : State) (h : (s.frameTicks + 1) % 4 ≠ 0) :
    s.beginTick = { s with frameTicks := s.frameTicks + 1, openTick := s.beginTick.openTick } := by
  simp [State.beginTick, h]

/-- A millisecond tick counts the timers (R1). -/
theorem State.beginTick_millisecond (s : State) (h : (s.frameTicks + 1) % 4 = 0) :
    s.beginTick = { s.countTimers with frameTicks := s.frameTicks + 1, openTick := s.beginTick.openTick } := by
  simp [State.beginTick, h]

/-- All that a tick changes as it begins: the timers, the hush timer and the count of moments. -/
theorem State.beginTick_eq (s : State) :
    s.beginTick =
      { s with
        frameTicks := s.frameTicks + 1, openTick := s.beginTick.openTick
        ksu := { s.ksu with group := { s.ksu.group with state := s.beginTick.ksu.group.state } }
        blr := { s.blr with
          lossTimer := s.beginTick.blr.lossTimer, group := { s.blr.group with state := s.beginTick.blr.group.state } }
        vbc := { s.vbc with
          wakeTimer := s.beginTick.vbc.wakeTimer, holdOff := s.beginTick.vbc.holdOff
          closeTimer := s.beginTick.vbc.closeTimer }
        act := { s.act with hush := s.beginTick.act.hush } } := by
  by_cases h : (s.frameTicks + 1) % 4 = 0
  · rw [s.beginTick_millisecond h]
    cases ha : s.act
    by_cases hp : s.act.activity = .playing <;> simp_all [State.countTimers, Vbc.count, Act.count]
  · rw [s.beginTick_frame h]

@[simp] theorem State.beginTick_bus (s : State) : s.beginTick.vbc.bus = s.vbc.bus := by
  rw [State.beginTick_eq]

@[simp] theorem State.beginTick_owesFrame (s : State) : s.beginTick.owesFrame = true := by
  simp [State.owesFrame]

/-! ## A tick taken to its end -/

/-- A tick that was taken whole owes nothing. -/
theorem State.finishTick_none (s : State) (h : s.openTick = none) : s.finishTick = s := by
  simp [State.finishTick, h]

@[simp] theorem State.finishTick_openTick (s : State) : s.finishTick.openTick = none := by
  unfold State.finishTick
  split <;> simp_all

/-- A step of the clock leaves a tick taken whole. -/
theorem State.tick_openTick (s : State) (h : s.heldInReset = false) : s.tick.openTick = none := by
  simp [State.tick, h]

/-! ## The tick of a command -/

@[simp] theorem State.passTicks_zero (s : State) : s.passTicks 0 = s := rfl

theorem State.passTicks_succ (s : State) (n : Nat) : s.passTicks (n + 1) = s.finishTick.beginTick.passTicks n := rfl

/-- Where the tick that stands was taken whole, the next begins at once. -/
theorem State.passTicks_one (s : State) (h : s.openTick = none) : s.passTicks 1 = s.beginTick := by
  rw [State.passTicks_succ, State.finishTick_none s h, State.passTicks_zero]

/-- In another bus state a commanded frame is none. -/
theorem State.commandFrame_other (s : State) (bus : BusState) (build : State → State) (h : s.vbc.bus ≠ bus) :
    s.commandFrame bus build = s := by
  simp [State.commandFrame, h]

/-- The tick that stands still owes the frame. -/
theorem State.commandFrame_owed (s : State) (bus : BusState) (build : State → State) (o : OpenTick)
    (h : s.vbc.bus = bus) (ho : s.openTick = some o) (hf : o.frame = true) (hb : o.bus = bus)
    (hm : bus = .waking → s.frameTicks % 4 = 0) :
    s.commandFrame bus build = build { s with openTick := some { o with frame := false } } := by
  subst h
  by_cases hw : s.vbc.bus = .waking <;> simp [State.commandFrame, State.owesFrame, State.takeFrame, *]

/-- The tick that stands still owes the visits. -/
theorem State.commandVisits_owed (s : State) (o : OpenTick) (h : s.rsa.pass ≠ none) (ho : s.openTick = some o)
    (hv : o.visits = true) :
    s.commandVisits = ({ s with openTick := some { o with visits := false } } : State).passTick := by
  simp [State.commandVisits, State.owesVisits, Option.isSome_iff_ne_none, h, ho, hv]

end Sys2Proof.Machine
end

