-- ==== Sys2Proof/Laws/Events.lean ====
section
/-! SUPPORT. What the wrappers of the meanings do: an event of a part that is not held, the watch on the quiet
conditions, a wake cause and the hush expiry, an accepted frame, and a transaction with the busy window closed or
open. -/

-- One theorem at a time: many at once ask for more threads than the memory limit of the check allows.
set_option Elab.async false

namespace Sys2Proof.Machine

/-! ## Events -/

theorem State.event_held (s : State) (f : State → State) (h : s.heldInReset = true) : s.event f = .next s := by
  simp [State.event, h]

theorem State.event_next (s : State) (f : State → State) (h : s.heldInReset = false) : s.event f = .next (f s) := by
  simp [State.event, h]

theorem State.live_held (s : State) (f : State → State) (h : s.heldInReset = true) : s.live f = .next s :=
  s.event_held _ h

theorem State.live_next (s : State) (f : State → State) (h : s.heldInReset = false) :
    s.live f = .next (f s).watchQuiet := s.event_next _ h

/-! ## The watch on the quiet conditions (R157) -/

/-- A part whose hush timer is already 0 where a quiet condition fails is left as it is. -/
theorem State.watchQuiet_of_hushed (s : State) (h : s.hushed) : s.watchQuiet = s := by
  unfold State.watchQuiet
  split
  · rename_i q
    have h0 := h q.1 q.2
    obtain ⟨_, _, _, _, _, _, _, _, _, _, _, _, ⟨_, _, _⟩, _, _, _⟩ := s
    simp_all
  · rfl

theorem State.watchQuiet_hushed (s : State) : s.watchQuiet.hushed := by
  unfold State.watchQuiet
  split
  · exact fun _ _ => rfl
  · rename_i h
    exact fun p q => absurd ⟨p, q⟩ h

/-- The watch changes the hush timer alone. -/
theorem State.watchQuiet_eq (s : State) :
    s.watchQuiet = { s with act := { s.act with hush := s.watchQuiet.act.hush } } := by
  unfold State.watchQuiet
  split <;> rfl

@[simp] theorem State.watchQuiet_heldInReset (s : State) : s.watchQuiet.heldInReset = s.heldInReset := by
  rw [State.watchQuiet_eq]
@[simp] theorem State.watchQuiet_frameTicks (s : State) : s.watchQuiet.frameTicks = s.frameTicks := by
  rw [State.watchQuiet_eq]
@[simp] theorem State.watchQuiet_openTick (s : State) : s.watchQuiet.openTick = s.openTick := by
  rw [State.watchQuiet_eq]
@[simp] theorem State.watchQuiet_ksu (s : State) : s.watchQuiet.ksu = s.ksu := by rw [State.watchQuiet_eq]
@[simp] theorem State.watchQuiet_blr (s : State) : s.watchQuiet.blr = s.blr := by rw [State.watchQuiet_eq]
@[simp] theorem State.watchQuiet_bwu (s : State) : s.watchQuiet.bwu = s.bwu := by rw [State.watchQuiet_eq]
@[simp] theorem State.watchQuiet_htm (s : State) : s.watchQuiet.htm = s.htm := by rw [State.watchQuiet_eq]
@[simp] theorem State.watchQuiet_sdt (s : State) : s.watchQuiet.sdt = s.sdt := by rw [State.watchQuiet_eq]
@[simp] theorem State.watchQuiet_val (s : State) : s.watchQuiet.val = s.val := by rw [State.watchQuiet_eq]
@[simp] theorem State.watchQuiet_exu (s : State) : s.watchQuiet.exu = s.exu := by rw [State.watchQuiet_eq]
@[simp] theorem State.watchQuiet_vbc (s : State) : s.watchQuiet.vbc = s.vbc := by rw [State.watchQuiet_eq]
@[simp] theorem State.watchQuiet_rsa (s : State) : s.watchQuiet.rsa = s.rsa := by rw [State.watchQuiet_eq]
@[simp] theorem State.watchQuiet_cpt (s : State) : s.watchQuiet.cpt = s.cpt := by rw [State.watchQuiet_eq]
@[simp] theorem State.watchQuiet_pending (s : State) : s.watchQuiet.pending = s.pending := by
  rw [State.watchQuiet_eq]
@[simp] theorem State.watchQuiet_activity (s : State) : s.watchQuiet.act.activity = s.act.activity := by
  rw [State.watchQuiet_eq]
@[simp] theorem State.watchQuiet_hushTime (s : State) : s.watchQuiet.act.hushTime = s.act.hushTime := by
  rw [State.watchQuiet_eq]

/-! ## Wake causes and the hush expiry (R158, R159) -/

theorem State.hushDue_iff (s : State) : s.hushDue = true ↔
    s.act.activity = .playing ∧ 1 ≤ s.act.hushTime ∧ s.quiet = true ∧ s.act.hushTime * 1000 ≤ s.act.hush := by
  simp [State.hushDue, and_assoc]

theorem State.hushAtHand_iff (s : State) : s.hushAtHand = true ↔
    s.act.activity = .playing ∧ s.quiet = true ∧ 1 ≤ s.act.hushTime ∧ s.act.hushTime * 1000 ≤ s.act.hush ∧
      s.openTick.any (·.millisecond) = true := by
  rw [State.hushAtHand, Bool.and_eq_true, State.hushDue_iff]
  tauto

/-- All that a wake cause can do. -/
theorem State.reportWake_eq (s : State) : s.reportWake = s.roused := by
  unfold State.reportWake State.roused
  split
  · simp only [State.wakeUp, State.wakeTest, true_and]
    by_cases q : s.vbc.bus = .quiet ∧ s.vbc.holdOff = none
    · simp only [if_pos q]; rfl
    · simp only [if_neg q]; rfl
  · simp only [State.hushAtHand_iff]

/-- A wake cause leaves no part in RESTING. -/
theorem State.reportWake_activity (s : State) :
    s.reportWake.act.activity = if s.act.activity = .resting then .playing else s.act.activity := by
  rw [State.reportWake_eq, State.roused]
  split
  · rfl
  · split <;> rfl

theorem State.hushDue_of_hush_zero (s : State) (h : s.act.hush = 0) : s.hushDue = false := by
  rw [Bool.eq_false_iff, Ne, State.hushDue_iff]
  omega

/-- No expiry is at hand after a wake cause. -/
theorem State.reportWake_not_at_hand (s : State) : s.reportWake.hushAtHand = false := by
  unfold State.reportWake
  split
  · simp [State.hushAtHand, State.hushDue_of_hush_zero s.wakeUp rfl]
  · split
    · simp [State.hushAtHand, State.hushDue_of_hush_zero { s with act := { s.act with hush := 0 } } rfl]
    · exact Bool.eq_false_iff.2 ‹_›

theorem State.hushExpiry_of_not_due (s : State) (h : s.hushDue = false) : s.hushExpiry = s := by
  simp [State.hushExpiry, h]

theorem State.hushExpiry_of_due (s : State) (h : s.hushDue = true) : s.hushExpiry = s.enterResting := by
  simp [State.hushExpiry, h]

/-! ## Accepted frames (R22, R26) -/

/-- A good frame that the operand gives: the assembler seeks, and the frame is handled. -/
theorem State.acceptFrame_given (s : State) (f : BitVec 160) (h : s.blr.complete = none)
    (hf : byteSum f 20 % 256 = 0xFF) : s.acceptFrame f = ({ s with blr := s.blr.seek } : State).handleFrame f := by
  simp [State.acceptFrame, h, hf]

/-- A good frame that waits is handled, whatever the operand, and the assembler stays as it is. -/
theorem State.acceptFrame_waiting (s : State) (f g : BitVec 160) (h : s.blr.complete = some f)
    (hf : byteSum f 20 % 256 = 0xFF) :
    s.acceptFrame g = ({ s with blr := { s.blr with complete := none } } : State).handleFrame f := by
  simp [State.acceptFrame, h, hf]

/-! ## Transactions (R164) -/

/-- A request of a part that takes it. -/
theorem State.request_ready (s : State) (f : State → Response × State) (h : s.ready) :
    s.request f = .next (s.answered (f s).2 (f s).1) := by
  obtain ⟨h1, h2⟩ := h
  simp only [State.request, State.event_next _ _ h1, h2]
  rfl

/-- A request of a part that only reads. -/
theorem State.readRequest_ready (s : State) (f : State → Response) (h : s.ready) :
    s.readRequest f = .next (s.answered s (f s)) := s.request_ready _ h

/-- A transaction begun in the busy window. -/
theorem State.request_busy (s : State) (f : State → Response × State) (h : s.heldInReset = false)
    (hb : s.cpt.busy = true) : s.request f = .next s.earlyOut := by
  simp [State.request, State.event_next _ _ h, hb]

/-- Any command but the cold reset events reaches a held part as nothing: the wrapper of every request. -/
theorem State.request_held (s : State) (f : State → Response × State) (h : s.heldInReset = true) :
    s.request f = .next s := s.event_held _ h

end Sys2Proof.Machine
end

