-- ==== Sys2Proof/Laws/State.lean ====
section
/-! SUPPORT. The fields of the state after each of its updates, one lemma for each field and update, and the state of a
voice, an engine, a record or a hold after them. -/

-- One theorem at a time: many at once ask for more threads than the memory limit of the check allows.
set_option Elab.async false

namespace Sys2Proof.Machine

/-! ## `State.setNotice` -/

@[simp] theorem State.setNotice_heldInReset (s : State) (n : Notice) : (s.setNotice n).heldInReset = s.heldInReset := rfl

@[simp] theorem State.setNotice_frameTicks (s : State) (n : Notice) : (s.setNotice n).frameTicks = s.frameTicks := rfl

@[simp] theorem State.setNotice_openTick (s : State) (n : Notice) : (s.setNotice n).openTick = s.openTick := rfl

@[simp] theorem State.setNotice_ksu (s : State) (n : Notice) : (s.setNotice n).ksu = s.ksu := rfl

@[simp] theorem State.setNotice_blr (s : State) (n : Notice) : (s.setNotice n).blr = s.blr := rfl

@[simp] theorem State.setNotice_bwu (s : State) (n : Notice) : (s.setNotice n).bwu = s.bwu := rfl

@[simp] theorem State.setNotice_htm (s : State) (n : Notice) : (s.setNotice n).htm = s.htm := rfl

@[simp] theorem State.setNotice_sdt (s : State) (n : Notice) : (s.setNotice n).sdt = s.sdt := rfl

@[simp] theorem State.setNotice_val (s : State) (n : Notice) : (s.setNotice n).val = s.val := rfl

@[simp] theorem State.setNotice_exu (s : State) (n : Notice) : (s.setNotice n).exu = s.exu := rfl

@[simp] theorem State.setNotice_vbc (s : State) (n : Notice) : (s.setNotice n).vbc = s.vbc := rfl

@[simp] theorem State.setNotice_rsa (s : State) (n : Notice) : (s.setNotice n).rsa = s.rsa := rfl

@[simp] theorem State.setNotice_act (s : State) (n : Notice) : (s.setNotice n).act = s.act := rfl

@[simp] theorem State.setNotice_freeCount (s : State) (n : Notice) : (s.setNotice n).freeCount = s.freeCount := rfl

@[simp] theorem State.setNotice_pending (s : State) (n : Notice) : (s.setNotice n).pending = s.pending := rfl

@[simp] theorem State.setNotice_cpt_buffer (s : State) (n : Notice) :
    (s.setNotice n).cpt.buffer = s.cpt.buffer := rfl

@[simp] theorem State.setNotice_cpt_response (s : State) (n : Notice) :
    (s.setNotice n).cpt.response = s.cpt.response := rfl

@[simp] theorem State.setNotice_cpt_busy (s : State) (n : Notice) :
    (s.setNotice n).cpt.busy = s.cpt.busy := rfl

@[simp] theorem State.setNotice_cpt_notices (s : State) (n : Notice) :
    (s.setNotice n).cpt.notices = s.cpt.notices ||| n.mask := rfl

@[simp] theorem State.setNotice_cpt_enabled (s : State) (n : Notice) :
    (s.setNotice n).cpt.enabled = s.cpt.enabled := rfl

@[simp] theorem State.setNotice_cpt_clockedOut (s : State) (n : Notice) :
    (s.setNotice n).cpt.clockedOut = s.cpt.clockedOut := rfl

/-! ## `State.setVoice` -/

@[simp] theorem State.setVoice_heldInReset (s : State) (v : Fin 128) (x : Voice) : (s.setVoice v x).heldInReset = s.heldInReset := rfl

@[simp] theorem State.setVoice_frameTicks (s : State) (v : Fin 128) (x : Voice) : (s.setVoice v x).frameTicks = s.frameTicks := rfl

@[simp] theorem State.setVoice_openTick (s : State) (v : Fin 128) (x : Voice) : (s.setVoice v x).openTick = s.openTick := rfl

@[simp] theorem State.setVoice_ksu (s : State) (v : Fin 128) (x : Voice) : (s.setVoice v x).ksu = s.ksu := rfl

@[simp] theorem State.setVoice_blr (s : State) (v : Fin 128) (x : Voice) : (s.setVoice v x).blr = s.blr := rfl

@[simp] theorem State.setVoice_bwu (s : State) (v : Fin 128) (x : Voice) : (s.setVoice v x).bwu = s.bwu := rfl

@[simp] theorem State.setVoice_htm (s : State) (v : Fin 128) (x : Voice) : (s.setVoice v x).htm = s.htm := rfl

@[simp] theorem State.setVoice_sdt (s : State) (v : Fin 128) (x : Voice) : (s.setVoice v x).sdt = s.sdt := rfl

@[simp] theorem State.setVoice_exu (s : State) (v : Fin 128) (x : Voice) : (s.setVoice v x).exu = s.exu := rfl

@[simp] theorem State.setVoice_vbc (s : State) (v : Fin 128) (x : Voice) : (s.setVoice v x).vbc = s.vbc := rfl

@[simp] theorem State.setVoice_rsa (s : State) (v : Fin 128) (x : Voice) : (s.setVoice v x).rsa = s.rsa := rfl

@[simp] theorem State.setVoice_act (s : State) (v : Fin 128) (x : Voice) : (s.setVoice v x).act = s.act := rfl

@[simp] theorem State.setVoice_cpt (s : State) (v : Fin 128) (x : Voice) : (s.setVoice v x).cpt = s.cpt := rfl

@[simp] theorem State.setVoice_freeCount (s : State) (v : Fin 128) (x : Voice) : (s.setVoice v x).freeCount = s.freeCount := rfl

@[simp] theorem State.setVoice_pending (s : State) (v : Fin 128) (x : Voice) : (s.setVoice v x).pending = s.pending := rfl

@[simp] theorem State.setVoice_val_voices (s : State) (v : Fin 128) (x : Voice) :
    (s.setVoice v x).val.voices = s.val.voices.set v x := rfl

@[simp] theorem State.setVoice_val_waiting (s : State) (v : Fin 128) (x : Voice) :
    (s.setVoice v x).val.waiting = s.val.waiting := rfl

@[simp] theorem State.setVoice_val_stamp (s : State) (v : Fin 128) (x : Voice) :
    (s.setVoice v x).val.stamp = s.val.stamp := rfl

@[simp] theorem State.setVoice_val_joined (s : State) (v : Fin 128) (x : Voice) :
    (s.setVoice v x).val.joined = s.val.joined := rfl

@[simp] theorem State.setVoice_val_minSounding (s : State) (v : Fin 128) (x : Voice) :
    (s.setVoice v x).val.minSounding = s.val.minSounding := rfl

/-! ## `State.setSendList` -/

@[simp] theorem State.setSendList_heldInReset (s : State) (l : List SendEntry) : (s.setSendList l).heldInReset = s.heldInReset := rfl

@[simp] theorem State.setSendList_frameTicks (s : State) (l : List SendEntry) : (s.setSendList l).frameTicks = s.frameTicks := rfl

@[simp] theorem State.setSendList_openTick (s : State) (l : List SendEntry) : (s.setSendList l).openTick = s.openTick := rfl

@[simp] theorem State.setSendList_ksu (s : State) (l : List SendEntry) : (s.setSendList l).ksu = s.ksu := rfl

@[simp] theorem State.setSendList_blr (s : State) (l : List SendEntry) : (s.setSendList l).blr = s.blr := rfl

@[simp] theorem State.setSendList_bwu (s : State) (l : List SendEntry) : (s.setSendList l).bwu = s.bwu := rfl

@[simp] theorem State.setSendList_htm (s : State) (l : List SendEntry) : (s.setSendList l).htm = s.htm := rfl

@[simp] theorem State.setSendList_sdt (s : State) (l : List SendEntry) : (s.setSendList l).sdt = s.sdt := rfl

@[simp] theorem State.setSendList_val (s : State) (l : List SendEntry) : (s.setSendList l).val = s.val := rfl

@[simp] theorem State.setSendList_exu (s : State) (l : List SendEntry) : (s.setSendList l).exu = s.exu := rfl

@[simp] theorem State.setSendList_rsa (s : State) (l : List SendEntry) : (s.setSendList l).rsa = s.rsa := rfl

@[simp] theorem State.setSendList_act (s : State) (l : List SendEntry) : (s.setSendList l).act = s.act := rfl

@[simp] theorem State.setSendList_cpt (s : State) (l : List SendEntry) : (s.setSendList l).cpt = s.cpt := rfl

@[simp] theorem State.setSendList_freeCount (s : State) (l : List SendEntry) : (s.setSendList l).freeCount = s.freeCount := rfl

@[simp] theorem State.setSendList_pending (s : State) (l : List SendEntry) : (s.setSendList l).pending = s.pending := rfl

@[simp] theorem State.setSendList_vbc_bus (s : State) (l : List SendEntry) :
    (s.setSendList l).vbc.bus = s.vbc.bus := rfl

@[simp] theorem State.setSendList_vbc_destination (s : State) (l : List SendEntry) :
    (s.setSendList l).vbc.destination = s.vbc.destination := rfl

@[simp] theorem State.setSendList_vbc_engines (s : State) (l : List SendEntry) :
    (s.setSendList l).vbc.engines = s.vbc.engines := rfl

@[simp] theorem State.setSendList_vbc_expected (s : State) (l : List SendEntry) :
    (s.setSendList l).vbc.expected = s.vbc.expected := rfl

@[simp] theorem State.setSendList_vbc_wakeTime (s : State) (l : List SendEntry) :
    (s.setSendList l).vbc.wakeTime = s.vbc.wakeTime := rfl

@[simp] theorem State.setSendList_vbc_wakeTimer (s : State) (l : List SendEntry) :
    (s.setSendList l).vbc.wakeTimer = s.vbc.wakeTimer := rfl

@[simp] theorem State.setSendList_vbc_holdOff (s : State) (l : List SendEntry) :
    (s.setSendList l).vbc.holdOff = s.vbc.holdOff := rfl

@[simp] theorem State.setSendList_vbc_closeTimer (s : State) (l : List SendEntry) :
    (s.setSendList l).vbc.closeTimer = s.vbc.closeTimer := rfl

@[simp] theorem State.setSendList_vbc_wakeAttempts (s : State) (l : List SendEntry) :
    (s.setSendList l).vbc.wakeAttempts = s.vbc.wakeAttempts := rfl

@[simp] theorem State.setSendList_vbc_sendList (s : State) (l : List SendEntry) :
    (s.setSendList l).vbc.sendList = l := rfl

@[simp] theorem State.setSendList_vbc_clearPending (s : State) (l : List SendEntry) :
    (s.setSendList l).vbc.clearPending = s.vbc.clearPending := rfl

@[simp] theorem State.setSendList_vbc_rotation (s : State) (l : List SendEntry) :
    (s.setSendList l).vbc.rotation = s.vbc.rotation := rfl

@[simp] theorem State.setSendList_vbc_echo (s : State) (l : List SendEntry) :
    (s.setSendList l).vbc.echo = s.vbc.echo := rfl

@[simp] theorem State.setSendList_vbc_answer (s : State) (l : List SendEntry) :
    (s.setSendList l).vbc.answer = s.vbc.answer := rfl

@[simp] theorem State.setSendList_vbc_downstream (s : State) (l : List SendEntry) :
    (s.setSendList l).vbc.downstream = s.vbc.downstream := rfl

/-! ## `State.setEngine` -/

@[simp] theorem State.setEngine_heldInReset (s : State) (e : Fin 4) (x : Engine) : (s.setEngine e x).heldInReset = s.heldInReset := rfl

@[simp] theorem State.setEngine_frameTicks (s : State) (e : Fin 4) (x : Engine) : (s.setEngine e x).frameTicks = s.frameTicks := rfl

@[simp] theorem State.setEngine_openTick (s : State) (e : Fin 4) (x : Engine) : (s.setEngine e x).openTick = s.openTick := rfl

@[simp] theorem State.setEngine_ksu (s : State) (e : Fin 4) (x : Engine) : (s.setEngine e x).ksu = s.ksu := rfl

@[simp] theorem State.setEngine_blr (s : State) (e : Fin 4) (x : Engine) : (s.setEngine e x).blr = s.blr := rfl

@[simp] theorem State.setEngine_bwu (s : State) (e : Fin 4) (x : Engine) : (s.setEngine e x).bwu = s.bwu := rfl

@[simp] theorem State.setEngine_htm (s : State) (e : Fin 4) (x : Engine) : (s.setEngine e x).htm = s.htm := rfl

@[simp] theorem State.setEngine_sdt (s : State) (e : Fin 4) (x : Engine) : (s.setEngine e x).sdt = s.sdt := rfl

@[simp] theorem State.setEngine_val (s : State) (e : Fin 4) (x : Engine) : (s.setEngine e x).val = s.val := rfl

@[simp] theorem State.setEngine_exu (s : State) (e : Fin 4) (x : Engine) : (s.setEngine e x).exu = s.exu := rfl

@[simp] theorem State.setEngine_rsa (s : State) (e : Fin 4) (x : Engine) : (s.setEngine e x).rsa = s.rsa := rfl

@[simp] theorem State.setEngine_act (s : State) (e : Fin 4) (x : Engine) : (s.setEngine e x).act = s.act := rfl

@[simp] theorem State.setEngine_cpt (s : State) (e : Fin 4) (x : Engine) : (s.setEngine e x).cpt = s.cpt := rfl

@[simp] theorem State.setEngine_freeCount (s : State) (e : Fin 4) (x : Engine) : (s.setEngine e x).freeCount = s.freeCount := rfl

@[simp] theorem State.setEngine_pending (s : State) (e : Fin 4) (x : Engine) : (s.setEngine e x).pending = s.pending := rfl

@[simp] theorem State.setEngine_vbc_bus (s : State) (e : Fin 4) (x : Engine) :
    (s.setEngine e x).vbc.bus = s.vbc.bus := rfl

@[simp] theorem State.setEngine_vbc_destination (s : State) (e : Fin 4) (x : Engine) :
    (s.setEngine e x).vbc.destination = s.vbc.destination := rfl

@[simp] theorem State.setEngine_vbc_engines (s : State) (e : Fin 4) (x : Engine) :
    (s.setEngine e x).vbc.engines = s.vbc.engines.set e x := rfl

@[simp] theorem State.setEngine_vbc_expected (s : State) (e : Fin 4) (x : Engine) :
    (s.setEngine e x).vbc.expected = s.vbc.expected := rfl

@[simp] theorem State.setEngine_vbc_wakeTime (s : State) (e : Fin 4) (x : Engine) :
    (s.setEngine e x).vbc.wakeTime = s.vbc.wakeTime := rfl

@[simp] theorem State.setEngine_vbc_wakeTimer (s : State) (e : Fin 4) (x : Engine) :
    (s.setEngine e x).vbc.wakeTimer = s.vbc.wakeTimer := rfl

@[simp] theorem State.setEngine_vbc_holdOff (s : State) (e : Fin 4) (x : Engine) :
    (s.setEngine e x).vbc.holdOff = s.vbc.holdOff := rfl

@[simp] theorem State.setEngine_vbc_closeTimer (s : State) (e : Fin 4) (x : Engine) :
    (s.setEngine e x).vbc.closeTimer = s.vbc.closeTimer := rfl

@[simp] theorem State.setEngine_vbc_wakeAttempts (s : State) (e : Fin 4) (x : Engine) :
    (s.setEngine e x).vbc.wakeAttempts = s.vbc.wakeAttempts := rfl

@[simp] theorem State.setEngine_vbc_sendList (s : State) (e : Fin 4) (x : Engine) :
    (s.setEngine e x).vbc.sendList = s.vbc.sendList := rfl

@[simp] theorem State.setEngine_vbc_clearPending (s : State) (e : Fin 4) (x : Engine) :
    (s.setEngine e x).vbc.clearPending = s.vbc.clearPending := rfl

@[simp] theorem State.setEngine_vbc_rotation (s : State) (e : Fin 4) (x : Engine) :
    (s.setEngine e x).vbc.rotation = s.vbc.rotation := rfl

@[simp] theorem State.setEngine_vbc_echo (s : State) (e : Fin 4) (x : Engine) :
    (s.setEngine e x).vbc.echo = s.vbc.echo := rfl

@[simp] theorem State.setEngine_vbc_answer (s : State) (e : Fin 4) (x : Engine) :
    (s.setEngine e x).vbc.answer = s.vbc.answer := rfl

@[simp] theorem State.setEngine_vbc_downstream (s : State) (e : Fin 4) (x : Engine) :
    (s.setEngine e x).vbc.downstream = s.vbc.downstream := rfl

/-! ## `State.setJoined` -/

@[simp] theorem State.setJoined_heldInReset (s : State) (e : Fin 4) (n : Nat) : (s.setJoined e n).heldInReset = s.heldInReset := rfl

@[simp] theorem State.setJoined_frameTicks (s : State) (e : Fin 4) (n : Nat) : (s.setJoined e n).frameTicks = s.frameTicks := rfl

@[simp] theorem State.setJoined_openTick (s : State) (e : Fin 4) (n : Nat) : (s.setJoined e n).openTick = s.openTick := rfl

@[simp] theorem State.setJoined_ksu (s : State) (e : Fin 4) (n : Nat) : (s.setJoined e n).ksu = s.ksu := rfl

@[simp] theorem State.setJoined_blr (s : State) (e : Fin 4) (n : Nat) : (s.setJoined e n).blr = s.blr := rfl

@[simp] theorem State.setJoined_bwu (s : State) (e : Fin 4) (n : Nat) : (s.setJoined e n).bwu = s.bwu := rfl

@[simp] theorem State.setJoined_htm (s : State) (e : Fin 4) (n : Nat) : (s.setJoined e n).htm = s.htm := rfl

@[simp] theorem State.setJoined_sdt (s : State) (e : Fin 4) (n : Nat) : (s.setJoined e n).sdt = s.sdt := rfl

@[simp] theorem State.setJoined_exu (s : State) (e : Fin 4) (n : Nat) : (s.setJoined e n).exu = s.exu := rfl

@[simp] theorem State.setJoined_vbc (s : State) (e : Fin 4) (n : Nat) : (s.setJoined e n).vbc = s.vbc := rfl

@[simp] theorem State.setJoined_rsa (s : State) (e : Fin 4) (n : Nat) : (s.setJoined e n).rsa = s.rsa := rfl

@[simp] theorem State.setJoined_act (s : State) (e : Fin 4) (n : Nat) : (s.setJoined e n).act = s.act := rfl

@[simp] theorem State.setJoined_cpt (s : State) (e : Fin 4) (n : Nat) : (s.setJoined e n).cpt = s.cpt := rfl

@[simp] theorem State.setJoined_freeCount (s : State) (e : Fin 4) (n : Nat) : (s.setJoined e n).freeCount = s.freeCount := rfl

@[simp] theorem State.setJoined_pending (s : State) (e : Fin 4) (n : Nat) : (s.setJoined e n).pending = s.pending := rfl

@[simp] theorem State.setJoined_val_voices (s : State) (e : Fin 4) (n : Nat) :
    (s.setJoined e n).val.voices = s.val.voices := rfl

@[simp] theorem State.setJoined_val_waiting (s : State) (e : Fin 4) (n : Nat) :
    (s.setJoined e n).val.waiting = s.val.waiting := rfl

@[simp] theorem State.setJoined_val_stamp (s : State) (e : Fin 4) (n : Nat) :
    (s.setJoined e n).val.stamp = s.val.stamp := rfl

@[simp] theorem State.setJoined_val_joined (s : State) (e : Fin 4) (n : Nat) :
    (s.setJoined e n).val.joined = s.val.joined.set e n := rfl

@[simp] theorem State.setJoined_val_minSounding (s : State) (e : Fin 4) (n : Nat) :
    (s.setJoined e n).val.minSounding = s.val.minSounding := rfl

/-! ## `State.nextStamp` -/

@[simp] theorem State.nextStamp_heldInReset (s : State) : (s.nextStamp).heldInReset = s.heldInReset := rfl

@[simp] theorem State.nextStamp_frameTicks (s : State) : (s.nextStamp).frameTicks = s.frameTicks := rfl

@[simp] theorem State.nextStamp_openTick (s : State) : (s.nextStamp).openTick = s.openTick := rfl

@[simp] theorem State.nextStamp_ksu (s : State) : (s.nextStamp).ksu = s.ksu := rfl

@[simp] theorem State.nextStamp_blr (s : State) : (s.nextStamp).blr = s.blr := rfl

@[simp] theorem State.nextStamp_bwu (s : State) : (s.nextStamp).bwu = s.bwu := rfl

@[simp] theorem State.nextStamp_htm (s : State) : (s.nextStamp).htm = s.htm := rfl

@[simp] theorem State.nextStamp_sdt (s : State) : (s.nextStamp).sdt = s.sdt := rfl

@[simp] theorem State.nextStamp_exu (s : State) : (s.nextStamp).exu = s.exu := rfl

@[simp] theorem State.nextStamp_vbc (s : State) : (s.nextStamp).vbc = s.vbc := rfl

@[simp] theorem State.nextStamp_rsa (s : State) : (s.nextStamp).rsa = s.rsa := rfl

@[simp] theorem State.nextStamp_act (s : State) : (s.nextStamp).act = s.act := rfl

@[simp] theorem State.nextStamp_cpt (s : State) : (s.nextStamp).cpt = s.cpt := rfl

@[simp] theorem State.nextStamp_freeCount (s : State) : (s.nextStamp).freeCount = s.freeCount := rfl

@[simp] theorem State.nextStamp_pending (s : State) : (s.nextStamp).pending = s.pending := rfl

@[simp] theorem State.nextStamp_val_voices (s : State) :
    (s.nextStamp).val.voices = s.val.voices := rfl

@[simp] theorem State.nextStamp_val_waiting (s : State) :
    (s.nextStamp).val.waiting = s.val.waiting := rfl

@[simp] theorem State.nextStamp_val_stamp (s : State) :
    (s.nextStamp).val.stamp = s.val.stamp + 1 := rfl

@[simp] theorem State.nextStamp_val_joined (s : State) :
    (s.nextStamp).val.joined = s.val.joined := rfl

@[simp] theorem State.nextStamp_val_minSounding (s : State) :
    (s.nextStamp).val.minSounding = s.val.minSounding := rfl

/-! ## `State.setWaiting` -/

@[simp] theorem State.setWaiting_heldInReset (s : State) (l : List SlotRef) : (s.setWaiting l).heldInReset = s.heldInReset := rfl

@[simp] theorem State.setWaiting_frameTicks (s : State) (l : List SlotRef) : (s.setWaiting l).frameTicks = s.frameTicks := rfl

@[simp] theorem State.setWaiting_openTick (s : State) (l : List SlotRef) : (s.setWaiting l).openTick = s.openTick := rfl

@[simp] theorem State.setWaiting_ksu (s : State) (l : List SlotRef) : (s.setWaiting l).ksu = s.ksu := rfl

@[simp] theorem State.setWaiting_blr (s : State) (l : List SlotRef) : (s.setWaiting l).blr = s.blr := rfl

@[simp] theorem State.setWaiting_bwu (s : State) (l : List SlotRef) : (s.setWaiting l).bwu = s.bwu := rfl

@[simp] theorem State.setWaiting_htm (s : State) (l : List SlotRef) : (s.setWaiting l).htm = s.htm := rfl

@[simp] theorem State.setWaiting_sdt (s : State) (l : List SlotRef) : (s.setWaiting l).sdt = s.sdt := rfl

@[simp] theorem State.setWaiting_exu (s : State) (l : List SlotRef) : (s.setWaiting l).exu = s.exu := rfl

@[simp] theorem State.setWaiting_vbc (s : State) (l : List SlotRef) : (s.setWaiting l).vbc = s.vbc := rfl

@[simp] theorem State.setWaiting_rsa (s : State) (l : List SlotRef) : (s.setWaiting l).rsa = s.rsa := rfl

@[simp] theorem State.setWaiting_act (s : State) (l : List SlotRef) : (s.setWaiting l).act = s.act := rfl

@[simp] theorem State.setWaiting_cpt (s : State) (l : List SlotRef) : (s.setWaiting l).cpt = s.cpt := rfl

@[simp] theorem State.setWaiting_freeCount (s : State) (l : List SlotRef) : (s.setWaiting l).freeCount = s.freeCount := rfl

@[simp] theorem State.setWaiting_pending (s : State) (l : List SlotRef) : (s.setWaiting l).pending = s.pending := rfl

@[simp] theorem State.setWaiting_val_voices (s : State) (l : List SlotRef) :
    (s.setWaiting l).val.voices = s.val.voices := rfl

@[simp] theorem State.setWaiting_val_waiting (s : State) (l : List SlotRef) :
    (s.setWaiting l).val.waiting = l := rfl

@[simp] theorem State.setWaiting_val_stamp (s : State) (l : List SlotRef) :
    (s.setWaiting l).val.stamp = s.val.stamp := rfl

@[simp] theorem State.setWaiting_val_joined (s : State) (l : List SlotRef) :
    (s.setWaiting l).val.joined = s.val.joined := rfl

@[simp] theorem State.setWaiting_val_minSounding (s : State) (l : List SlotRef) :
    (s.setWaiting l).val.minSounding = s.val.minSounding := rfl

/-! ## `State.setRecords` -/

@[simp] theorem State.setRecords_heldInReset (s : State) (l : List Record) : (s.setRecords l).heldInReset = s.heldInReset := rfl

@[simp] theorem State.setRecords_frameTicks (s : State) (l : List Record) : (s.setRecords l).frameTicks = s.frameTicks := rfl

@[simp] theorem State.setRecords_openTick (s : State) (l : List Record) : (s.setRecords l).openTick = s.openTick := rfl

@[simp] theorem State.setRecords_ksu (s : State) (l : List Record) : (s.setRecords l).ksu = s.ksu := rfl

@[simp] theorem State.setRecords_blr (s : State) (l : List Record) : (s.setRecords l).blr = s.blr := rfl

@[simp] theorem State.setRecords_bwu (s : State) (l : List Record) : (s.setRecords l).bwu = s.bwu := rfl

@[simp] theorem State.setRecords_htm (s : State) (l : List Record) : (s.setRecords l).htm = s.htm := rfl

@[simp] theorem State.setRecords_val (s : State) (l : List Record) : (s.setRecords l).val = s.val := rfl

@[simp] theorem State.setRecords_exu (s : State) (l : List Record) : (s.setRecords l).exu = s.exu := rfl

@[simp] theorem State.setRecords_vbc (s : State) (l : List Record) : (s.setRecords l).vbc = s.vbc := rfl

@[simp] theorem State.setRecords_rsa (s : State) (l : List Record) : (s.setRecords l).rsa = s.rsa := rfl

@[simp] theorem State.setRecords_act (s : State) (l : List Record) : (s.setRecords l).act = s.act := rfl

@[simp] theorem State.setRecords_cpt (s : State) (l : List Record) : (s.setRecords l).cpt = s.cpt := rfl

@[simp] theorem State.setRecords_freeCount (s : State) (l : List Record) : (s.setRecords l).freeCount = s.freeCount := rfl

@[simp] theorem State.setRecords_pending (s : State) (l : List Record) : (s.setRecords l).pending = s.pending := rfl

@[simp] theorem State.setRecords_sdt_records (s : State) (l : List Record) :
    (s.setRecords l).sdt.records = l := rfl

@[simp] theorem State.setRecords_sdt_serial (s : State) (l : List Record) :
    (s.setRecords l).sdt.serial = s.sdt.serial := rfl

/-! ## `State.setHolds` -/

@[simp] theorem State.setHolds_heldInReset (s : State) (l : List Hold) : (s.setHolds l).heldInReset = s.heldInReset := rfl

@[simp] theorem State.setHolds_frameTicks (s : State) (l : List Hold) : (s.setHolds l).frameTicks = s.frameTicks := rfl

@[simp] theorem State.setHolds_openTick (s : State) (l : List Hold) : (s.setHolds l).openTick = s.openTick := rfl

@[simp] theorem State.setHolds_ksu (s : State) (l : List Hold) : (s.setHolds l).ksu = s.ksu := rfl

@[simp] theorem State.setHolds_blr (s : State) (l : List Hold) : (s.setHolds l).blr = s.blr := rfl

@[simp] theorem State.setHolds_bwu (s : State) (l : List Hold) : (s.setHolds l).bwu = s.bwu := rfl

@[simp] theorem State.setHolds_sdt (s : State) (l : List Hold) : (s.setHolds l).sdt = s.sdt := rfl

@[simp] theorem State.setHolds_val (s : State) (l : List Hold) : (s.setHolds l).val = s.val := rfl

@[simp] theorem State.setHolds_exu (s : State) (l : List Hold) : (s.setHolds l).exu = s.exu := rfl

@[simp] theorem State.setHolds_vbc (s : State) (l : List Hold) : (s.setHolds l).vbc = s.vbc := rfl

@[simp] theorem State.setHolds_rsa (s : State) (l : List Hold) : (s.setHolds l).rsa = s.rsa := rfl

@[simp] theorem State.setHolds_act (s : State) (l : List Hold) : (s.setHolds l).act = s.act := rfl

@[simp] theorem State.setHolds_cpt (s : State) (l : List Hold) : (s.setHolds l).cpt = s.cpt := rfl

@[simp] theorem State.setHolds_freeCount (s : State) (l : List Hold) : (s.setHolds l).freeCount = s.freeCount := rfl

@[simp] theorem State.setHolds_pending (s : State) (l : List Hold) : (s.setHolds l).pending = s.pending := rfl

@[simp] theorem State.setHolds_htm_map (s : State) (l : List Hold) :
    (s.setHolds l).htm.map = s.htm.map := rfl

@[simp] theorem State.setHolds_htm_trebleBase (s : State) (l : List Hold) :
    (s.setHolds l).htm.trebleBase = s.htm.trebleBase := rfl

@[simp] theorem State.setHolds_htm_bassBase (s : State) (l : List Hold) :
    (s.setHolds l).htm.bassBase = s.htm.bassBase := rfl

@[simp] theorem State.setHolds_htm_chordBase (s : State) (l : List Hold) :
    (s.setHolds l).htm.chordBase = s.htm.chordBase := rfl

@[simp] theorem State.setHolds_htm_holds (s : State) (l : List Hold) :
    (s.setHolds l).htm.holds = l := rfl

@[simp] theorem State.setHolds_htm_trebleSustain (s : State) (l : List Hold) :
    (s.setHolds l).htm.trebleSustain = s.htm.trebleSustain := rfl

@[simp] theorem State.setHolds_htm_bassSustain (s : State) (l : List Hold) :
    (s.setHolds l).htm.bassSustain = s.htm.bassSustain := rfl

/-! ## Reads after writes -/

@[simp] theorem State.setVoice_voice (s : State) (v : Fin 128) (x : Voice) : (s.setVoice v x).voice v = x := by
  simp [State.voice, State.setVoice]

theorem State.setVoice_voice_ne (s : State) (v w : Fin 128) (x : Voice) (h : w ≠ v) :
    (s.setVoice v x).voice w = s.voice w := by
  have h' : (v : Nat) ≠ w := fun e => h (Fin.ext e.symm)
  simp [State.voice, State.setVoice, h']

/-- Any voice after a write of one. -/
theorem State.setVoice_voice_eq (s : State) (v w : Fin 128) (x : Voice) :
    (s.setVoice v x).voice w = if w = v then x else s.voice w := by
  by_cases h : w = v
  · subst h; simp
  · simp [h, State.setVoice_voice_ne]

@[simp] theorem State.setEngine_engine (s : State) (e : Fin 4) (x : Engine) : (s.setEngine e x).engine e = x := by
  simp [State.engine, State.setEngine]

/-- Any engine after a write of one. -/
theorem State.setEngine_engine_eq (s : State) (e f : Fin 4) (x : Engine) :
    (s.setEngine e x).engine f = if f = e then x else s.engine f := by
  by_cases h : f = e
  · subst h; simp
  · have h' : (e : Nat) ≠ f := fun q => h (Fin.ext q.symm)
    simp [State.engine, State.setEngine, h, h']

@[simp] theorem State.setNotice_voice (s : State) (n : Notice) (w : Fin 128) : (s.setNotice n).voice w = s.voice w := rfl

@[simp] theorem State.setSendList_voice (s : State) (l : List SendEntry) (w : Fin 128) : (s.setSendList l).voice w = s.voice w := rfl

@[simp] theorem State.setEngine_voice (s : State) (e : Fin 4) (x : Engine) (w : Fin 128) : (s.setEngine e x).voice w = s.voice w := rfl

@[simp] theorem State.setJoined_voice (s : State) (e : Fin 4) (n : Nat) (w : Fin 128) : (s.setJoined e n).voice w = s.voice w := rfl

@[simp] theorem State.nextStamp_voice (s : State) (w : Fin 128) : (s.nextStamp).voice w = s.voice w := rfl

@[simp] theorem State.setWaiting_voice (s : State) (l : List SlotRef) (w : Fin 128) : (s.setWaiting l).voice w = s.voice w := rfl

@[simp] theorem State.setRecords_voice (s : State) (l : List Record) (w : Fin 128) : (s.setRecords l).voice w = s.voice w := rfl

@[simp] theorem State.setHolds_voice (s : State) (l : List Hold) (w : Fin 128) : (s.setHolds l).voice w = s.voice w := rfl

@[simp] theorem State.setNotice_engine (s : State) (n : Notice) (f : Fin 4) : (s.setNotice n).engine f = s.engine f := rfl

@[simp] theorem State.setVoice_engine (s : State) (v : Fin 128) (x : Voice) (f : Fin 4) : (s.setVoice v x).engine f = s.engine f := rfl

@[simp] theorem State.setSendList_engine (s : State) (l : List SendEntry) (f : Fin 4) : (s.setSendList l).engine f = s.engine f := rfl

@[simp] theorem State.setJoined_engine (s : State) (e : Fin 4) (n : Nat) (f : Fin 4) : (s.setJoined e n).engine f = s.engine f := rfl

@[simp] theorem State.nextStamp_engine (s : State) (f : Fin 4) : (s.nextStamp).engine f = s.engine f := rfl

@[simp] theorem State.setWaiting_engine (s : State) (l : List SlotRef) (f : Fin 4) : (s.setWaiting l).engine f = s.engine f := rfl

@[simp] theorem State.setRecords_engine (s : State) (l : List Record) (f : Fin 4) : (s.setRecords l).engine f = s.engine f := rfl

@[simp] theorem State.setHolds_engine (s : State) (l : List Hold) (f : Fin 4) : (s.setHolds l).engine f = s.engine f := rfl

@[simp] theorem State.setNotice_record (s : State) (n : Notice) (k : Key) : (s.setNotice n).record? k = s.record? k := rfl

@[simp] theorem State.setVoice_record (s : State) (v : Fin 128) (x : Voice) (k : Key) : (s.setVoice v x).record? k = s.record? k := rfl

@[simp] theorem State.setSendList_record (s : State) (l : List SendEntry) (k : Key) : (s.setSendList l).record? k = s.record? k := rfl

@[simp] theorem State.setEngine_record (s : State) (e : Fin 4) (x : Engine) (k : Key) : (s.setEngine e x).record? k = s.record? k := rfl

@[simp] theorem State.setJoined_record (s : State) (e : Fin 4) (n : Nat) (k : Key) : (s.setJoined e n).record? k = s.record? k := rfl

@[simp] theorem State.nextStamp_record (s : State) (k : Key) : (s.nextStamp).record? k = s.record? k := rfl

@[simp] theorem State.setWaiting_record (s : State) (l : List SlotRef) (k : Key) : (s.setWaiting l).record? k = s.record? k := rfl

@[simp] theorem State.setHolds_record (s : State) (l : List Hold) (k : Key) : (s.setHolds l).record? k = s.record? k := rfl

@[simp] theorem State.setNotice_slot (s : State) (n : Notice) (r : SlotRef) : (s.setNotice n).slot? r = s.slot? r := rfl

@[simp] theorem State.setVoice_slot (s : State) (v : Fin 128) (x : Voice) (r : SlotRef) : (s.setVoice v x).slot? r = s.slot? r := rfl

@[simp] theorem State.setSendList_slot (s : State) (l : List SendEntry) (r : SlotRef) : (s.setSendList l).slot? r = s.slot? r := rfl

@[simp] theorem State.setEngine_slot (s : State) (e : Fin 4) (x : Engine) (r : SlotRef) : (s.setEngine e x).slot? r = s.slot? r := rfl

@[simp] theorem State.setJoined_slot (s : State) (e : Fin 4) (n : Nat) (r : SlotRef) : (s.setJoined e n).slot? r = s.slot? r := rfl

@[simp] theorem State.nextStamp_slot (s : State) (r : SlotRef) : (s.nextStamp).slot? r = s.slot? r := rfl

@[simp] theorem State.setWaiting_slot (s : State) (l : List SlotRef) (r : SlotRef) : (s.setWaiting l).slot? r = s.slot? r := rfl

@[simp] theorem State.setHolds_slot (s : State) (l : List Hold) (r : SlotRef) : (s.setHolds l).slot? r = s.slot? r := rfl

@[simp] theorem State.setNotice_hold (s : State) (n : Notice) (b : Button) : (s.setNotice n).hold? b = s.hold? b := rfl

@[simp] theorem State.setVoice_hold (s : State) (v : Fin 128) (x : Voice) (b : Button) : (s.setVoice v x).hold? b = s.hold? b := rfl

@[simp] theorem State.setSendList_hold (s : State) (l : List SendEntry) (b : Button) : (s.setSendList l).hold? b = s.hold? b := rfl

@[simp] theorem State.setEngine_hold (s : State) (e : Fin 4) (x : Engine) (b : Button) : (s.setEngine e x).hold? b = s.hold? b := rfl

@[simp] theorem State.setJoined_hold (s : State) (e : Fin 4) (n : Nat) (b : Button) : (s.setJoined e n).hold? b = s.hold? b := rfl

@[simp] theorem State.nextStamp_hold (s : State) (b : Button) : (s.nextStamp).hold? b = s.hold? b := rfl

@[simp] theorem State.setWaiting_hold (s : State) (l : List SlotRef) (b : Button) : (s.setWaiting l).hold? b = s.hold? b := rfl

@[simp] theorem State.setRecords_hold (s : State) (l : List Record) (b : Button) : (s.setRecords l).hold? b = s.hold? b := rfl

@[simp] theorem State.setNotice_current (s : State) (n : Notice) (side : Side) : (s.setNotice n).current side = s.current side := by cases side <;> rfl

@[simp] theorem State.setVoice_current (s : State) (v : Fin 128) (x : Voice) (side : Side) : (s.setVoice v x).current side = s.current side := by cases side <;> rfl

@[simp] theorem State.setSendList_current (s : State) (l : List SendEntry) (side : Side) : (s.setSendList l).current side = s.current side := by cases side <;> rfl

@[simp] theorem State.setEngine_current (s : State) (e : Fin 4) (x : Engine) (side : Side) : (s.setEngine e x).current side = s.current side := by cases side <;> rfl

@[simp] theorem State.setJoined_current (s : State) (e : Fin 4) (n : Nat) (side : Side) : (s.setJoined e n).current side = s.current side := by cases side <;> rfl

@[simp] theorem State.nextStamp_current (s : State) (side : Side) : (s.nextStamp).current side = s.current side := by cases side <;> rfl

@[simp] theorem State.setWaiting_current (s : State) (l : List SlotRef) (side : Side) : (s.setWaiting l).current side = s.current side := by cases side <;> rfl

@[simp] theorem State.setRecords_current (s : State) (l : List Record) (side : Side) : (s.setRecords l).current side = s.current side := by cases side <;> rfl

@[simp] theorem State.setHolds_current (s : State) (l : List Hold) (side : Side) : (s.setHolds l).current side = s.current side := by cases side <;> rfl

@[simp] theorem State.setNotice_sustain (s : State) (n : Notice) (side : Side) : (s.setNotice n).sustain side = s.sustain side := by cases side <;> rfl

@[simp] theorem State.setVoice_sustain (s : State) (v : Fin 128) (x : Voice) (side : Side) : (s.setVoice v x).sustain side = s.sustain side := by cases side <;> rfl

@[simp] theorem State.setSendList_sustain (s : State) (l : List SendEntry) (side : Side) : (s.setSendList l).sustain side = s.sustain side := by cases side <;> rfl

@[simp] theorem State.setEngine_sustain (s : State) (e : Fin 4) (x : Engine) (side : Side) : (s.setEngine e x).sustain side = s.sustain side := by cases side <;> rfl

@[simp] theorem State.setJoined_sustain (s : State) (e : Fin 4) (n : Nat) (side : Side) : (s.setJoined e n).sustain side = s.sustain side := by cases side <;> rfl

@[simp] theorem State.nextStamp_sustain (s : State) (side : Side) : (s.nextStamp).sustain side = s.sustain side := by cases side <;> rfl

@[simp] theorem State.setWaiting_sustain (s : State) (l : List SlotRef) (side : Side) : (s.setWaiting l).sustain side = s.sustain side := by cases side <;> rfl

@[simp] theorem State.setRecords_sustain (s : State) (l : List Record) (side : Side) : (s.setRecords l).sustain side = s.sustain side := by cases side <;> rfl

@[simp] theorem State.setHolds_sustain (s : State) (l : List Hold) (side : Side) : (s.setHolds l).sustain side = s.sustain side := by cases side <;> rfl

/-! ## Notices -/

/-- The bits of the notices differ. -/
theorem Notice.bit_injective {m n : Notice} (h : m.bit = n.bit) : m = n := by
  cases m <;> cases n <;> simp only [Notice.bit] at h <;> first | rfl | omega | (congr 1; omega)

theorem Notice.bit_lt (n : Notice) : n.bit < 21 := by cases n <;> simp only [Notice.bit] <;> omega

/-- A notice's flag after another's cause. -/
@[simp] theorem State.setNotice_noticeSet (s : State) (m n : Notice) :
    (s.setNotice m).noticeSet n = (s.noticeSet n || decide (n = m)) := by
  have hn := n.bit_lt
  by_cases h : n = m
  · subst h; simp [State.setNotice, State.noticeSet, Notice.mask, hn]
  · have h' : m.bit ≠ n.bit := fun e => h (Notice.bit_injective e).symm
    simp [State.setNotice, State.noticeSet, Notice.mask, BitVec.getLsbD_or, BitVec.getLsbD_twoPow, h, h']

end Sys2Proof.Machine
end

