-- ==== Sys2Proof/Laws/Frames.lean ====
section
/-! SUPPORT. What the operations on voices, slots and records leave as it is. `State.SameBeyondVoices s t` says once all
that `t` shares with `s`; there is one lemma for each operation, and one for a fold of operations. -/

-- One theorem at a time: many at once ask for more threads than the memory limit of the check allows.
set_option Elab.async false

namespace Sys2Proof.Machine

/-- `t` differs from `s` at most in voice entries, the voice stamp, the slots of records, the Waiting List, the Send List
and notices that became set. -/
structure State.SameBeyondVoices (s t : State) : Prop where
  heldInReset : t.heldInReset = s.heldInReset
  frameTicks : t.frameTicks = s.frameTicks
  openTick : t.openTick = s.openTick
  ksu : t.ksu = s.ksu
  blr : t.blr = s.blr
  bwu : t.bwu = s.bwu
  htm : t.htm = s.htm
  exu : t.exu = s.exu
  rsa : t.rsa = s.rsa
  act : t.act = s.act
  freeCount : t.freeCount = s.freeCount
  pending : t.pending = s.pending
  serial : t.sdt.serial = s.sdt.serial
  joined : t.val.joined = s.val.joined
  minSounding : t.val.minSounding = s.val.minSounding
  vbc : { t.vbc with sendList := [] } = { s.vbc with sendList := [] }
  cpt : { t.cpt with notices := 0 } = { s.cpt with notices := 0 }
  notices : ∀ n, s.noticeSet n = true → t.noticeSet n = true
  records : t.sdt.records.map (fun x => (x.key, x.holders, x.stamp, x.generation)) =
    s.sdt.records.map fun x => (x.key, x.holders, x.stamp, x.generation)

namespace State.SameBeyondVoices

theorem refl (s : State) : s.SameBeyondVoices s := by constructor <;> simp

theorem trans {s t u : State} (h : s.SameBeyondVoices t) (k : t.SameBeyondVoices u) : s.SameBeyondVoices u :=
  ⟨k.heldInReset.trans h.heldInReset, k.frameTicks.trans h.frameTicks, k.openTick.trans h.openTick,
    k.ksu.trans h.ksu, k.blr.trans h.blr, k.bwu.trans h.bwu, k.htm.trans h.htm, k.exu.trans h.exu, k.rsa.trans h.rsa, k.act.trans h.act,
    k.freeCount.trans h.freeCount, k.pending.trans h.pending, k.serial.trans h.serial, k.joined.trans h.joined,
    k.minSounding.trans h.minSounding, k.vbc.trans h.vbc, k.cpt.trans h.cpt, fun n q => k.notices n (h.notices n q),
    k.records.trans h.records⟩

/-- A fold of operations shares what each shares. -/
theorem foldl {α : Type} (f : State → α → State) (h : ∀ (s : State) a, s.SameBeyondVoices (f s a)) (l : List α) (s : State) :
    s.SameBeyondVoices (l.foldl f s) := by
  induction l generalizing s with
  | nil => exact refl s
  | cons a l ih => exact (h s a).trans (ih (f s a))

variable {s t : State}

theorem bus (h : s.SameBeyondVoices t) : t.vbc.bus = s.vbc.bus := by have := h.vbc; simp_all
theorem engines (h : s.SameBeyondVoices t) : t.vbc.engines = s.vbc.engines := by have := h.vbc; simp_all
theorem engine (h : s.SameBeyondVoices t) (e : Fin 4) : t.engine e = s.engine e := by simp only [State.engine, h.engines]
theorem answer (h : s.SameBeyondVoices t) : t.vbc.answer = s.vbc.answer := by have := h.vbc; simp_all
theorem echo (h : s.SameBeyondVoices t) : t.vbc.echo = s.vbc.echo := by have := h.vbc; simp_all
theorem clearPending (h : s.SameBeyondVoices t) : t.vbc.clearPending = s.vbc.clearPending := by have := h.vbc; simp_all
theorem rotation (h : s.SameBeyondVoices t) : t.vbc.rotation = s.vbc.rotation := by have := h.vbc; simp_all
theorem presentMask (h : s.SameBeyondVoices t) : t.presentMask = s.presentMask := by
  simp only [State.presentMask, h.engine]

/-- The Send List alone of the bus controller may differ. -/
theorem vbc_eq (h : s.SameBeyondVoices t) : t.vbc = { s.vbc with sendList := t.vbc.sendList } := by
  have := h.vbc; cases hs : s.vbc; cases ht : t.vbc; simp_all

/-- The notices alone of the port may differ. -/
theorem cpt_eq (h : s.SameBeyondVoices t) : t.cpt = { s.cpt with notices := t.cpt.notices } := by
  have := h.cpt; cases hs : s.cpt; cases ht : t.cpt; simp_all

theorem keys (h : s.SameBeyondVoices t) : t.sdt.records.map (·.key) = s.sdt.records.map (·.key) := by
  have := congrArg (List.map Prod.fst) h.records
  simpa [List.map_map, Function.comp_def] using this

theorem available (h : s.SameBeyondVoices t) (v : Fin 128) : t.available v = s.available v := by
  simp only [State.available, h.engine, h.joined]

theorem allowed (h : s.SameBeyondVoices t) (mask : BitVec 4) (e : Fin 4) : t.allowed mask e = s.allowed mask e := by
  simp only [State.allowed, h.engine, h.joined]

theorem sustain (h : s.SameBeyondVoices t) (side : Side) : t.sustain side = s.sustain side := by
  cases side <;> simp only [State.sustain, h.htm]

theorem current (h : s.SameBeyondVoices t) (side : Side) : t.current side = s.current side := by
  cases side <;> simp only [State.current, h.rsa]

end State.SameBeyondVoices

open State.SameBeyondVoices

/-! ## The updates -/

theorem State.setNotice_same (n : Notice) (s : State) : s.SameBeyondVoices (s.setNotice n) := by
  constructor <;> simp
  intro m h; simp [h]

theorem State.setVoice_same (v : Fin 128) (x : Voice) (s : State) : s.SameBeyondVoices (s.setVoice v x) := by
  constructor <;> simp [State.noticeSet]

theorem State.setSendList_same (l : List SendEntry) (s : State) : s.SameBeyondVoices (s.setSendList l) := by
  constructor <;> simp [State.noticeSet]

theorem State.nextStamp_same (s : State) : s.SameBeyondVoices s.nextStamp := by
  constructor <;> simp [State.noticeSet]

theorem State.setWaiting_same (l : List SlotRef) (s : State) : s.SameBeyondVoices (s.setWaiting l) := by
  constructor <;> simp [State.noticeSet]

theorem State.setPending_same (v : Fin 128) (cmd : Pending) (c : Option StartContents) (s : State) :
    s.SameBeyondVoices (s.setPending v cmd c) :=
  (State.setVoice_same v _ s).trans (State.setSendList_same _ _)

/-- A change of a record's slots alone. -/
theorem State.changeRecord_same (k : Key) (f : Record → Record) (s : State)
    (h : ∀ x, (f x).key = x.key ∧ (f x).holders = x.holders ∧ (f x).stamp = x.stamp ∧ (f x).generation = x.generation) :
    s.SameBeyondVoices (s.changeRecord k f) := by
  constructor <;> simp [State.changeRecord, State.noticeSet]
  intro x _
  split <;> simp [h]

theorem State.changeSlot_same (r : SlotRef) (f : Slot → Slot) (s : State) : s.SameBeyondVoices (s.changeSlot r f) :=
  s.changeRecord_same _ _ fun _ => ⟨rfl, rfl, rfl, rfl⟩

theorem State.setStatus_same (r : SlotRef) (st : SlotStatus) (s : State) : s.SameBeyondVoices (s.setStatus r st) :=
  s.changeSlot_same _ _

theorem State.putSlot_same (r : SlotRef) (x : Slot) (s : State) : s.SameBeyondVoices (s.putSlot r x) :=
  s.changeRecord_same _ _ fun _ => ⟨rfl, rfl, rfl, rfl⟩

/-! ## Expression -/

theorem State.computeTarget_same (v : Fin 128) (s : State) : s.SameBeyondVoices (s.computeTarget v) := by
  unfold State.computeTarget
  split
  · exact refl s
  · exact s.setVoice_same _ _

theorem State.updateLevel_same (v : Fin 128) (s : State) : s.SameBeyondVoices (s.updateLevel v) := by
  unfold State.updateLevel
  split
  · exact refl s
  · exact s.setVoice_same _ _

theorem State.updateLevels_same (s : State) : s.SameBeyondVoices s.updateLevels :=
  foldl _ (fun s v => s.updateLevel_same v) _ _

theorem State.updateCurve_same (curve : Nat) (s : State) : s.SameBeyondVoices (s.updateCurve curve) := by
  refine foldl _ (fun s v => ?_) _ _
  split
  · exact s.updateLevel_same v
  · exact refl s

theorem State.accent_same (v : Fin 128) (s : State) : s.SameBeyondVoices (s.accent v) := by
  unfold State.accent
  split
  · exact s.setPending_same _ _ _
  · exact refl s

theorem State.reversalAccents_same (s : State) : s.SameBeyondVoices s.reversalAccents := by
  refine foldl _ (fun s v => ?_) _ _
  split
  · exact s.accent_same v
  · exact refl s

/-! ## Voices -/

theorem State.grant_same (v : Fin 128) (r : SlotRef) (s : State) : s.SameBeyondVoices (s.grant v r) := by
  unfold State.grant
  split
  · exact refl s
  · exact (s.setVoice_same _ _).trans ((State.nextStamp_same _).trans ((State.setPending_same _ _ _ _).trans
      ((State.setStatus_same _ _ _).trans (State.computeTarget_same _ _))))

theorem State.leaveWaiting_same (r : SlotRef) (s : State) : s.SameBeyondVoices (s.leaveWaiting r) := s.setWaiting_same _

theorem State.joinWaiting_same (r : SlotRef) (s : State) : s.SameBeyondVoices (s.joinWaiting r) := s.setWaiting_same _

theorem State.waitOrServe_same (r : SlotRef) (s : State) : s.SameBeyondVoices (s.waitOrServe r) := by
  unfold State.waitOrServe
  refine (s.joinWaiting_same r).trans ?_
  dsimp only
  split
  · split
    · exact (State.leaveWaiting_same _ _).trans (State.grant_same _ _ _)
    · exact refl _
  · exact refl _

theorem State.serveVoice_same (v : Fin 128) (s : State) : s.SameBeyondVoices (s.serveVoice v) := by
  unfold State.serveVoice
  split
  · split
    · exact (State.leaveWaiting_same _ _).trans (State.grant_same _ _ _)
    · exact refl _
  · exact refl _

theorem State.loseToSteal_same (r : SlotRef) (s : State) : s.SameBeyondVoices (s.loseToSteal r) := by
  unfold State.loseToSteal
  split
  · exact refl s
  · split
    · have h := (s.setStatus_same r .starved).trans (State.waitOrServe_same r _)
      dsimp only
      split
      · exact h.trans (State.setNotice_same _ _)
      · exact h
    · exact (s.setStatus_same _ _).trans (State.setNotice_same _ _)

theorem State.allocate_same (r : SlotRef) (s : State) : s.SameBeyondVoices (s.allocate r) := by
  unfold State.allocate
  split
  · exact refl s
  · split
    · split
      · exact (s.grant_same _ _).trans (State.loseToSteal_same _ _)
      · exact s.grant_same _ _
    · split
      · exact (s.setStatus_same _ _).trans ((State.joinWaiting_same _ _).trans (State.setNotice_same _ _))
      · exact (s.setStatus_same _ _).trans (State.setNotice_same _ _)

theorem State.release_same (v : Fin 128) (tailLimit : Nat) (s : State) : s.SameBeyondVoices (s.release v tailLimit) := by
  unfold State.release
  dsimp only
  split <;> exact (s.setVoice_same _ _).trans ((State.nextStamp_same _).trans (State.setPending_same _ _ _ _))

theorem State.cut_same (v : Fin 128) (s : State) : s.SameBeyondVoices (s.cut v) :=
  (s.setVoice_same _ _).trans (State.setPending_same _ _ _ _)

theorem State.freeVoice_same (v : Fin 128) (s : State) : s.SameBeyondVoices (s.freeVoice v) :=
  (s.setVoice_same _ _).trans (State.setPending_same _ _ _ _)

theorem State.tailOverrun_same (v : Fin 128) (s : State) : s.SameBeyondVoices (s.tailOverrun v) := by
  unfold State.tailOverrun
  split
  · exact (s.cut_same v).trans (State.setNotice_same _ _)
  · exact refl s

theorem State.doneReport_same (v : Fin 128) (tag : BitVec 2) (s : State) : s.SameBeyondVoices (s.doneReport v tag) := by
  unfold State.doneReport
  split
  · split
    · exact (s.freeVoice_same v).trans (State.serveVoice_same _ _)
    · split
      · exact (s.freeVoice_same v).trans ((State.setStatus_same _ _ _).trans (State.serveVoice_same _ _))
      · exact (s.freeVoice_same v).trans (State.serveVoice_same _ _)
    · exact refl s
  · exact refl s

/-- The loss of an engine at the Voice Allocator moves its joined capacity besides (R106). -/
theorem State.valLoss_same (e : Fin 4) (s : State) : (s.setJoined e 0).SameBeyondVoices (s.valLoss e) := by
  unfold State.valLoss
  refine (foldl _ (fun s v => ?_) _ _).trans
    (foldl _ (fun s r => (s.setStatus_same r _).trans (State.waitOrServe_same r _)) _ _)
  split
  · exact refl s
  · exact s.freeVoice_same v

/-! ## Slots and records -/

theorem State.buildSlot_same (k : Key) (j : Nat) (layer : Layer) (s : State) :
    s.SameBeyondVoices (s.buildSlot k j layer) := by
  unfold State.buildSlot
  dsimp only
  split
  · exact s.putSlot_same _ _
  · split
    · exact (s.putSlot_same _ _).trans (State.joinWaiting_same _ _)
    · exact (s.putSlot_same _ _).trans (State.allocate_same _ _)

theorem State.buildSlots_same (k : Key) (layers : List Layer) (j : Nat) (s : State) :
    s.SameBeyondVoices (s.buildSlots k j layers) := by
  induction layers generalizing j s with
  | nil => exact refl s
  | cons l layers ih => exact (s.buildSlot_same k j l).trans (ih _ _)

theorem State.disposeSlot_same (r : SlotRef) (s : State) : s.SameBeyondVoices (s.disposeSlot r) := by
  unfold State.disposeSlot
  split
  · exact refl s
  · split
    · exact (s.setStatus_same _ _).trans (State.release_same _ _ _)
    · exact (s.setStatus_same _ _).trans (State.leaveWaiting_same _ _)
    · exact (s.setStatus_same _ _).trans (State.leaveWaiting_same _ _)
    · exact refl s
    · exact refl s

theorem State.cutSlot_same (r : SlotRef) (s : State) : s.SameBeyondVoices (s.cutSlot r) := by
  unfold State.cutSlot
  split
  · exact refl s
  · split
    · exact (s.setStatus_same _ _).trans (State.cut_same _ _)
    · exact (s.setStatus_same _ _).trans (State.leaveWaiting_same _ _)
    · exact (s.setStatus_same _ _).trans (State.leaveWaiting_same _ _)
    · exact refl s
    · exact refl s

theorem State.relayerSlot_same (k : Key) (j : Nat) (layer : Layer) (s : State) :
    s.SameBeyondVoices (s.relayerSlot k j layer) := by
  unfold State.relayerSlot
  dsimp only
  split
  · exact (s.changeSlot_same _ _).trans (State.updateLevel_same _ _)
  · exact (s.disposeSlot_same _).trans (State.buildSlot_same _ _ _ _)

theorem State.relayerSlots_same (k : Key) (layers : List Layer) (j : Nat) (s : State) :
    s.SameBeyondVoices (s.relayerSlots k j layers) := by
  induction layers generalizing j s with
  | nil => exact refl s
  | cons l layers ih => exact (s.relayerSlot_same k j l).trans (ih _ _)

end Sys2Proof.Machine
end

