-- ==== Sys2Proof/Laws/Lists.lean ====
section
/-! SUPPORT. What the choosing and sorting functions, the sets of bits, the bytes of numbers and the Send List's update
do. -/

-- One theorem at a time: many at once ask for more threads than the memory limit of the check allows.
set_option Elab.async false

namespace Sys2Proof

/-! ## Bytes of numbers -/

@[simp] theorem bytesOfNat_length (n x : Nat) : (bytesOfNat n x).length = n := by
  induction n generalizing x with
  | zero => rfl
  | succ n ih => simp [bytesOfNat, ih]

/-- The bytes of a number spell it modulo their range. -/
theorem natOfBytes_bytesOfNat (n x : Nat) : natOfBytes (bytesOfNat n x) = x % 256 ^ n := by
  induction n generalizing x with
  | zero => simp [bytesOfNat, natOfBytes, Nat.mod_one]
  | succ n ih =>
    have h : x % 256 ^ (n + 1) = x % 256 + 256 * (x / 256 % 256 ^ n) := by
      rw [pow_succ, Nat.mul_comm, Nat.mod_mul]
    simp [bytesOfNat, natOfBytes, ih, h]

theorem natOfBytes_lt (l : List Byte) : natOfBytes l < 256 ^ l.length := by
  induction l with
  | nil => simp [natOfBytes]
  | cons b l ih =>
    have := b.isLt
    simp only [natOfBytes, List.length_cons, pow_succ]
    omega

/-- The number that bytes spell has those bytes. -/
theorem bytesOfNat_natOfBytes (l : List Byte) : bytesOfNat l.length (natOfBytes l) = l := by
  induction l with
  | nil => rfl
  | cons b l ih =>
    have hb : b.toNat < 256 := b.isLt
    have h1 : BitVec.ofNat 8 (b.toNat + 256 * natOfBytes l) = b := by
      apply BitVec.eq_of_toNat_eq
      simp only [BitVec.toNat_ofNat]
      omega
    have h2 : (b.toNat + 256 * natOfBytes l) / 256 = natOfBytes l := by omega
    simp [bytesOfNat, natOfBytes, h1, h2, ih]

theorem natOfBytes_append (l m : List Byte) : natOfBytes (l ++ m) = natOfBytes l + 256 ^ l.length * natOfBytes m := by
  induction l with
  | nil => simp [natOfBytes]
  | cons b l ih => simp only [List.cons_append, natOfBytes, ih, List.length_cons, pow_succ]; ring

/-- Byte `i` of the number that bytes spell. -/
theorem byteAt_natOfBytes (w : Nat) (l : List Byte) (i : Nat) (hi : 8 * i + 8 ≤ w) :
    byteAt (BitVec.ofNat w (natOfBytes l)) i = l.getD i 0 := by
  have key : ∀ (l : List Byte) (i : Nat), natOfBytes l / 2 ^ (8 * i) % 2 ^ 8 = (l.getD i 0).toNat := by
    intro l
    induction l with
    | nil => intro i; simp [natOfBytes]
    | cons b l ih =>
      intro i
      have hb : b.toNat < 256 := b.isLt
      cases i with
      | zero => simp only [natOfBytes, List.getD_cons_zero]; norm_num; omega
      | succ i =>
        have h : 2 ^ (8 * (i + 1)) = 256 * 2 ^ (8 * i) := by rw [Nat.mul_succ, pow_add]; norm_num; ring
        have h2 : (b.toNat + 256 * natOfBytes l) / 256 = natOfBytes l := by omega
        simp only [natOfBytes, List.getD_cons_succ, h, ← Nat.div_div_eq_div_mul, h2, ih]
  apply BitVec.eq_of_toNat_eq
  simp only [byteAt, BitVec.extractLsb'_toNat, BitVec.toNat_ofNat, Nat.shiftRight_eq_div_pow]
  rw [← key l i]
  have hw : (2 : Nat) ^ w = 2 ^ (8 * i) * 2 ^ 8 * 2 ^ (w - (8 * i + 8)) := by
    rw [← pow_add, ← pow_add]; congr 1; omega
  rw [hw, Nat.mul_assoc, Nat.mod_mul_right_div_self, Nat.mod_mul_right_mod]

namespace Machine

/-! ## Sets of bits -/

@[simp] theorem mem_bitsOf {n : Nat} (x : BitVec n) (i : Fin n) : i ∈ bitsOf x ↔ x.getLsbD i.val = true := by
  simp [bitsOf]

theorem bitsOf_nodup {n : Nat} (x : BitVec n) : (bitsOf x).Nodup := (List.nodup_finRange n).filter _

/-- The bits of a set stand in ascending order. -/
theorem bitsOf_ascending {n : Nat} (x : BitVec n) : (bitsOf x).Pairwise (· < ·) :=
  (List.pairwise_lt_finRange n).filter _

@[simp] theorem bitsOf_zero (n : Nat) : bitsOf (0 : BitVec n) = [] := by
  simp [bitsOf]

/-! ## Choosing -/

@[simp] theorem leastBy_eq_none {α : Type} (f : α → Nat) (l : List α) : leastBy f l = none ↔ l = [] := by
  cases l with
  | nil => simp [leastBy]
  | cons a l => simp only [leastBy]; split <;> simp; split <;> simp

/-- The choice is an element of least measure, and the first of those. -/
theorem leastBy_eq_some {α : Type} (f : α → Nat) (l : List α) (a : α) (h : leastBy f l = some a) :
    ∃ before after, l = before ++ a :: after ∧ (∀ b ∈ before, f a < f b) ∧ ∀ b ∈ after, f a ≤ f b := by
  induction l generalizing a with
  | nil => simp [leastBy] at h
  | cons c l ih =>
    simp only [leastBy] at h
    split at h
    · rename_i hn
      have hl := (leastBy_eq_none f l).1 hn
      cases h
      exact ⟨[], [], by simp [hl], by simp, by simp⟩
    · rename_i b hb
      obtain ⟨p, q, hl, hp, hq⟩ := ih b hb
      split at h
      · rename_i hlt
        cases h
        exact ⟨c :: p, q, by simp [hl], by simpa using ⟨hlt, hp⟩, hq⟩
      · rename_i hlt
        cases h
        refine ⟨[], l, rfl, by simp, fun x hx => ?_⟩
        rw [hl] at hx
        rcases List.mem_append.1 hx with hx | hx
        · have := hp x hx; omega
        · rcases List.mem_cons.1 hx with rfl | hx
          · omega
          · have := hq x hx; omega

theorem leastBy_mem {α : Type} (f : α → Nat) (l : List α) (a : α) (h : leastBy f l = some a) :
    a ∈ l ∧ ∀ b ∈ l, f a ≤ f b := by
  obtain ⟨p, q, rfl, hp, hq⟩ := leastBy_eq_some f l a h
  refine ⟨by simp, fun b hb => ?_⟩
  rcases List.mem_append.1 hb with hb | hb
  · exact (hp b hb).le
  · rcases List.mem_cons.1 hb with rfl | hb
    · exact le_rfl
    · exact hq b hb

/-! ## Sorting -/

theorem insertBy_perm {α : Type} (f : α → Nat) (a : α) (l : List α) : (insertBy f a l).Perm (a :: l) := by
  induction l with
  | nil => exact List.Perm.refl _
  | cons b l ih =>
    simp only [insertBy]
    split
    · exact List.Perm.refl _
    · exact (ih.cons b).trans (List.Perm.swap a b l)

@[simp] theorem mem_insertBy {α : Type} (f : α → Nat) (a b : α) (l : List α) : b ∈ insertBy f a l ↔ b = a ∨ b ∈ l := by
  simp [(insertBy_perm f a l).mem_iff]

/-- An element put into an ascending list leaves it ascending. -/
theorem insertBy_ascending {α : Type} (f : α → Nat) (a : α) (l : List α) (h : l.Pairwise fun x y => f x ≤ f y) :
    (insertBy f a l).Pairwise fun x y => f x ≤ f y := by
  induction l with
  | nil => simp [insertBy]
  | cons b l ih =>
    obtain ⟨hb, hl⟩ := List.pairwise_cons.1 h
    simp only [insertBy]
    split
    · rename_i hlt
      refine List.pairwise_cons.2 ⟨fun c hc => ?_, h⟩
      rcases List.mem_cons.1 hc with rfl | hc
      · exact hlt
      · exact hlt.trans (hb c hc)
    · rename_i hlt
      refine List.pairwise_cons.2 ⟨fun c hc => ?_, ih hl⟩
      rcases (mem_insertBy f a c l).1 hc with rfl | hc
      · omega
      · exact hb c hc

/-- An element whose measure no other has, put into a strictly ascending list, leaves it so. -/
theorem insertBy_strict {α : Type} (f : α → Nat) (a : α) (l : List α) (h : l.Pairwise fun x y => f x < f y)
    (ha : ∀ b ∈ l, f b ≠ f a) : (insertBy f a l).Pairwise fun x y => f x < f y := by
  induction l with
  | nil => simp [insertBy]
  | cons b l ih =>
    obtain ⟨hb, hl⟩ := List.pairwise_cons.1 h
    simp only [insertBy]
    split
    · rename_i hlt
      refine List.pairwise_cons.2 ⟨fun c hc => ?_, h⟩
      have hne := ha b (by simp)
      rcases List.mem_cons.1 hc with rfl | hc
      · omega
      · exact lt_of_le_of_lt hlt (hb c hc)
    · rename_i hlt
      have hne := ha b (by simp)
      refine List.pairwise_cons.2 ⟨fun c hc => ?_, ih hl fun c hc => ha c (by simp [hc])⟩
      rcases (mem_insertBy f a c l).1 hc with rfl | hc
      · omega
      · exact hb c hc

theorem sortBy_perm {α : Type} (f : α → Nat) (l : List α) : (sortBy f l).Perm l := by
  induction l with
  | nil => exact List.Perm.refl _
  | cons a l ih => exact (insertBy_perm f a _).trans (ih.cons a)

@[simp] theorem mem_sortBy {α : Type} (f : α → Nat) (a : α) (l : List α) : a ∈ sortBy f l ↔ a ∈ l :=
  (sortBy_perm f l).mem_iff

@[simp] theorem sortBy_length {α : Type} (f : α → Nat) (l : List α) : (sortBy f l).length = l.length :=
  (sortBy_perm f l).length_eq

theorem sortBy_ascending {α : Type} (f : α → Nat) (l : List α) : (sortBy f l).Pairwise fun x y => f x ≤ f y := by
  induction l with
  | nil => simp [sortBy]
  | cons a l ih => exact insertBy_ascending f a _ ih

/-- Put into an ascending list, an element stands before those of its own measure. -/
theorem insertBy_filter {α : Type} (f : α → Nat) (n : Nat) (a : α) (l : List α) (h : l.Pairwise fun x y => f x ≤ f y) :
    (insertBy f a l).filter (f · = n) = (a :: l).filter (f · = n) := by
  induction l with
  | nil => rfl
  | cons b l ih =>
    simp only [insertBy]
    split
    · rfl
    · rename_i hlt
      have := ih (List.pairwise_cons.1 h).2
      by_cases ha : f a = n <;> by_cases hb : f b = n <;> simp_all

/-- Elements of one measure keep their order. -/
theorem sortBy_stable {α : Type} (f : α → Nat) (n : Nat) (l : List α) :
    (sortBy f l).filter (f · = n) = l.filter (f · = n) := by
  induction l with
  | nil => rfl
  | cons a l ih => simp [sortBy, insertBy_filter f n a _ (sortBy_ascending f l), List.filter_cons, ih]

/-! ## The Send List (R123) -/

theorem sendListAfter_none (l : List SendEntry) (v : Fin 128) (old : Pending) (c : Option StartContents) :
    sendListAfter l v old .none c = l.filter fun e => e.voice ≠ v := by simp [sendListAfter]

/-- A voice that had no command and is given one joins the tail. -/
theorem sendListAfter_join (l : List SendEntry) (v : Fin 128) (new : Pending) (c : Option StartContents)
    (h : new ≠ .none) : sendListAfter l v .none new c = l ++ [{ voice := v, start := c }] := by simp [sendListAfter, h]

/-- A voice that had a command and is given another keeps its place. -/
theorem sendListAfter_keep (l : List SendEntry) (v : Fin 128) (old new : Pending) (c : Option StartContents)
    (ho : old ≠ .none) (h : new ≠ .none) : sendListAfter l v old new c =
      l.map fun e => if e.voice = v then { voice := v, start := c } else e := by simp [sendListAfter, h, ho]

/-- The voices of the Send List where a command replaces a command. -/
theorem sendListAfter_keep_voices (l : List SendEntry) (v : Fin 128) (old new : Pending) (c : Option StartContents)
    (ho : old ≠ .none) (h : new ≠ .none) : (sendListAfter l v old new c).map (·.voice) = l.map (·.voice) := by
  rw [sendListAfter_keep _ _ _ _ _ ho h, List.map_map]
  apply List.map_congr_left
  intro e _
  simp only [Function.comp_apply]
  split <;> simp_all

/-- Which voices the Send List names after a voice's command changes, where it names exactly those with a command. -/
theorem mem_sendListAfter (l : List SendEntry) (v w : Fin 128) (old new : Pending) (c : Option StartContents)
    (h : v ∈ l.map (·.voice) ↔ old ≠ .none) :
    w ∈ (sendListAfter l v old new c).map (·.voice) ↔ if w = v then new ≠ .none else w ∈ l.map (·.voice) := by
  by_cases hn : new = .none
  · subst hn
    rw [sendListAfter_none]
    by_cases hw : w = v
    · subst hw; simp
    · simp only [hw, if_false, List.mem_map, List.mem_filter, decide_eq_true_eq]
      exact ⟨fun ⟨e, he, q⟩ => ⟨e, he.1, q⟩, fun ⟨e, he, q⟩ => ⟨e, ⟨he, by rw [q]; exact hw⟩, q⟩⟩
  · by_cases ho : old = .none
    · subst ho
      rw [sendListAfter_join _ _ _ _ hn]
      by_cases hw : w = v
      · subst hw; simp [hn]
      · simp [hw]
    · rw [sendListAfter_keep_voices _ _ _ _ _ ho hn]
      by_cases hw : w = v
      · subst hw; simp [hn, h, ho]
      · simp [hw]

/-- No voice stands twice in the Send List after a voice's command changes. -/
theorem sendListAfter_nodup (l : List SendEntry) (v : Fin 128) (old new : Pending) (c : Option StartContents)
    (h : v ∈ l.map (·.voice) ↔ old ≠ .none) (hl : (l.map (·.voice)).Nodup) :
    ((sendListAfter l v old new c).map (·.voice)).Nodup := by
  by_cases hn : new = .none
  · subst hn
    rw [sendListAfter_none]
    exact hl.sublist (List.filter_sublist.map _)
  · by_cases ho : old = .none
    · subst ho
      rw [sendListAfter_join _ _ _ _ hn, List.map_append]
      refine List.nodup_append.2 ⟨hl, by simp, ?_⟩
      intro a ha b hb e
      simp only [List.map_cons, List.map_nil, List.mem_singleton] at hb
      subst hb
      subst e
      exact (h.1 ha) rfl
    · rw [sendListAfter_keep_voices _ _ _ _ _ ho hn]
      exact hl

end Machine

end Sys2Proof
end

