-- ==== Sys2Proof/Laws/PerInstr.lean ====
section
/-! SUPPORT. What holds of every command as syntax, one lemma for each constructor: a command that has the bytes of a
request is a request of the port and is well formed. -/

-- One theorem at a time: many at once ask for more threads than the memory limit of the check allows.
set_option Elab.async false

namespace Sys2Proof.Laws.RequestForm

/-- A command with the bytes of a request is a request, and well formed (R165, Table 12-5). -/
def Statement (i : Instr) : Prop := (encodeRequest i).isSome = true → i.isRequest = true ∧ i.wf = true

theorem scanCompletion (buttons : BitVec 96) (tabs : BitVec 12) (chins : BitVec 4) : Statement (.scanCompletion buttons tabs chins) :=
  fun h => absurd h Bool.false_ne_true

theorem settleExpiry (side : Side) : Statement (.settleExpiry side) :=
  fun h => absurd h Bool.false_ne_true

theorem tailExpiry (voice : Fin 128) : Statement (.tailExpiry voice) :=
  fun h => absurd h Bool.false_ne_true

theorem bassCharacter (line : BitVec 176) : Statement (.bassCharacter line) :=
  fun h => absurd h Bool.false_ne_true

theorem gapExpiry : Statement (.gapExpiry) :=
  fun h => absurd h Bool.false_ne_true

theorem acceptedFrame (frame : BitVec 160) : Statement (.acceptedFrame frame) :=
  fun h => absurd h Bool.false_ne_true

theorem lossTimerExpiry : Statement (.lossTimerExpiry) :=
  fun h => absurd h Bool.false_ne_true

theorem normalFrame : Statement (.normalFrame) :=
  fun h => absurd h Bool.false_ne_true

theorem wakeFrame : Statement (.wakeFrame) :=
  fun h => absurd h Bool.false_ne_true

theorem closeFrame : Statement (.closeFrame) :=
  fun h => absurd h Bool.false_ne_true

theorem upstreamAnswer (frame : BitVec 56) : Statement (.upstreamAnswer frame) :=
  fun h => absurd h Bool.false_ne_true

theorem wakeTimerExpiry : Statement (.wakeTimerExpiry) :=
  fun h => absurd h Bool.false_ne_true

theorem holdOffExpiry : Statement (.holdOffExpiry) :=
  fun h => absurd h Bool.false_ne_true

theorem closeTimerExpiry : Statement (.closeTimerExpiry) :=
  fun h => absurd h Bool.false_ne_true

theorem applyPassTick : Statement (.applyPassTick) :=
  fun h => absurd h Bool.false_ne_true

theorem hushExpiry : Statement (.hushExpiry) :=
  fun h => absurd h Bool.false_ne_true

theorem coldReset : Statement (.coldReset) :=
  fun h => absurd h Bool.false_ne_true

theorem warmReset : Statement (.warmReset) :=
  fun _ => ⟨rfl, rfl⟩

theorem earlyTransaction : Statement (.earlyTransaction) :=
  fun h => absurd h Bool.false_ne_true

theorem busyWindowExpiry : Statement (.busyWindowExpiry) :=
  fun h => absurd h Bool.false_ne_true

theorem unknownRequest (kind : Byte) : Statement (.unknownRequest kind) :=
  fun h => absurd h Bool.false_ne_true

theorem nop : Statement (.nop) :=
  fun _ => ⟨rfl, rfl⟩

theorem status : Statement (.status) :=
  fun _ => ⟨rfl, rfl⟩

theorem find (side pitch : Byte) : Statement (.find side pitch) :=
  fun _ => ⟨rfl, rfl⟩

theorem scan (side pitch : Byte) : Statement (.scan side pitch) :=
  fun _ => ⟨rfl, rfl⟩

theorem voice (id : Byte) : Statement (.voice id) :=
  fun _ => ⟨rfl, rfl⟩

theorem adjust (side pitch slot level mute : Byte) : Statement (.adjust side pitch slot level mute) :=
  fun _ => ⟨rfl, rfl⟩

theorem retire (side pitch : Byte) : Statement (.retire side pitch) :=
  fun _ => ⟨rfl, rfl⟩

theorem silence (side : Byte) : Statement (.silence side) :=
  fun _ => ⟨rfl, rfl⟩

theorem putReg (entry : Byte) (treble bass : BitVec 392) : Statement (.putReg entry treble bass) :=
  fun _ => ⟨rfl, rfl⟩

theorem getReg (entry : Byte) : Statement (.getReg entry) :=
  fun _ => ⟨rfl, rfl⟩

theorem putCurve (curve : Byte) (points : BitVec 72) : Statement (.putCurve curve points) :=
  fun _ => ⟨rfl, rfl⟩

theorem getCurve (curve : Byte) : Statement (.getCurve curve) :=
  fun _ => ⟨rfl, rfl⟩

theorem putMap (entries : BitVec 768) (trebleBase bassBase chordBase : Byte) : Statement (.putMap entries trebleBase bassBase chordBase) :=
  fun _ => ⟨rfl, rfl⟩

theorem putSetup (settings : BitVec 352) : Statement (.putSetup settings) :=
  fun _ => ⟨rfl, rfl⟩

theorem getSetup : Statement (.getSetup) :=
  fun _ => ⟨rfl, rfl⟩

theorem apply (entry halves : Byte) : Statement (.apply entry halves) :=
  fun _ => ⟨rfl, rfl⟩

theorem calibrate : Statement (.calibrate) :=
  fun _ => ⟨rfl, rfl⟩

theorem busOpen : Statement (.busOpen) :=
  fun _ => ⟨rfl, rfl⟩

theorem busClose : Statement (.busClose) :=
  fun _ => ⟨rfl, rfl⟩

theorem start : Statement (.start) :=
  fun _ => ⟨rfl, rfl⟩

theorem wake : Statement (.wake) :=
  fun _ => ⟨rfl, rfl⟩

theorem notices : Statement (.notices) :=
  fun _ => ⟨rfl, rfl⟩

theorem clearNotices (mask : BitVec 24) : Statement (.clearNotices mask) :=
  fun _ => ⟨rfl, rfl⟩

theorem enable (mask : BitVec 24) : Statement (.enable mask) :=
  fun _ => ⟨rfl, rfl⟩

theorem clearCounts : Statement (.clearCounts) :=
  fun _ => ⟨rfl, rfl⟩

theorem malformedRequest (kind : Byte) (received : Nat) : Statement (.malformedRequest kind received) :=
  fun h => absurd h Bool.false_ne_true

theorem startBitDetection : Statement (.startBitDetection) :=
  fun h => absurd h Bool.false_ne_true

theorem noiseStartBit : Statement (.noiseStartBit) :=
  fun h => absurd h Bool.false_ne_true

theorem highSampleInAwaitingIdle : Statement (.highSampleInAwaitingIdle) :=
  fun h => absurd h Bool.false_ne_true

theorem leavingColdReset : Statement (.leavingColdReset) :=
  fun h => absurd h Bool.false_ne_true

end Sys2Proof.Laws.RequestForm
end

