-- ==== Sys2Proof/Laws/Voices.lean ====
section
/-! SUPPORT. What each operation on one voice does to the voice entries and the Send List, and what a change of records
does to the records and slots read. -/

-- One theorem at a time: many at once ask for more threads than the memory limit of the check allows.
set_option Elab.async false

namespace Sys2Proof.Machine

/-! ## Voice entries -/

@[simp] theorem State.setPending_voice (s : State) (v w : Fin 128) (cmd : Pending) (c : Option StartContents) :
    (s.setPending v cmd c).voice w = if w = v then { s.voice v with pending := cmd } else s.voice w := by
  simp [State.setPending, State.setVoice_voice_eq]

@[simp] theorem State.setPending_sendList (s : State) (v : Fin 128) (cmd : Pending) (c : Option StartContents) :
    (s.setPending v cmd c).vbc.sendList = sendListAfter s.vbc.sendList v (s.voice v).pending cmd c := rfl

@[simp] theorem State.setPending_sdt (s : State) (v : Fin 128) (cmd : Pending) (c : Option StartContents) :
    (s.setPending v cmd c).sdt = s.sdt := rfl

@[simp] theorem State.setPending_waiting (s : State) (v : Fin 128) (cmd : Pending) (c : Option StartContents) :
    (s.setPending v cmd c).val.waiting = s.val.waiting := rfl

@[simp] theorem State.setPending_stamp (s : State) (v : Fin 128) (cmd : Pending) (c : Option StartContents) :
    (s.setPending v cmd c).val.stamp = s.val.stamp := rfl

@[simp] theorem State.setPending_slot (s : State) (v : Fin 128) (cmd : Pending) (c : Option StartContents)
    (r : SlotRef) : (s.setPending v cmd c).slot? r = s.slot? r := rfl

/-- The voices after a cut (R100). -/
theorem State.cut_voice (s : State) (v w : Fin 128) : (s.cut v).voice w =
    if w = v then { s.voice v with
      state := .cutting, owner := none, eligibleFrom := none, tail := .absent, pending := .cut } else s.voice w := by
  by_cases h : w = v <;> simp [State.cut, State.setVoice_voice_eq, h]

@[simp] theorem State.cut_sendList (s : State) (v : Fin 128) :
    (s.cut v).vbc.sendList = sendListAfter s.vbc.sendList v (s.voice v).pending .cut none := by simp [State.cut]

@[simp] theorem State.cut_sdt (s : State) (v : Fin 128) : (s.cut v).sdt = s.sdt := rfl

@[simp] theorem State.cut_waiting (s : State) (v : Fin 128) : (s.cut v).val.waiting = s.val.waiting := rfl

@[simp] theorem State.cut_stamp (s : State) (v : Fin 128) : (s.cut v).val.stamp = s.val.stamp := rfl

/-- The voices after one becomes FREE (R101, R106, R127). -/
theorem State.freeVoice_voice (s : State) (v w : Fin 128) : (s.freeVoice v).voice w =
    if w = v then { s.voice v with
      state := .free, owner := none, eligibleFrom := none, tail := .absent, pending := .none } else s.voice w := by
  by_cases h : w = v <;> simp [State.freeVoice, State.setVoice_voice_eq, h]

@[simp] theorem State.freeVoice_sendList (s : State) (v : Fin 128) :
    (s.freeVoice v).vbc.sendList = s.vbc.sendList.filter fun e => e.voice ≠ v := by
  simp [State.freeVoice, sendListAfter_none]

@[simp] theorem State.freeVoice_sdt (s : State) (v : Fin 128) : (s.freeVoice v).sdt = s.sdt := rfl

@[simp] theorem State.freeVoice_waiting (s : State) (v : Fin 128) :
    (s.freeVoice v).val.waiting = s.val.waiting := rfl

/-- A release in one form: the voice entry, the stamp, and the pending command of a voice whose START is or is not
pending (R97). -/
theorem State.release_eq (s : State) (v : Fin 128) (limit : Nat) : s.release v limit =
    ((s.setVoice v { s.voice v with
      state := .releasing, owner := none, releaseStamp := s.val.stamp, tail := .length limit }).nextStamp).setPending v
      (if (s.voice v).pending = .start then .startRelease else .release)
      (if (s.voice v).pending = .start then s.startContents v else none) := by
  unfold State.release
  dsimp only
  split
  · rename_i h; simp [h]
  · rename_i h; rw [if_neg h, if_neg h]

/-- The voices after a release (R97). -/
theorem State.release_voice (s : State) (v w : Fin 128) (limit : Nat) : (s.release v limit).voice w =
    if w = v then { s.voice v with
      state := .releasing, owner := none, releaseStamp := s.val.stamp, tail := .length limit
      pending := if (s.voice v).pending = .start then .startRelease else .release } else s.voice w := by
  rw [State.release_eq]
  by_cases h : w = v <;> simp [h, State.setVoice_voice_eq]

@[simp] theorem State.release_sdt (s : State) (v : Fin 128) (limit : Nat) : (s.release v limit).sdt = s.sdt := by
  rw [State.release_eq]; rfl

@[simp] theorem State.release_waiting (s : State) (v : Fin 128) (limit : Nat) :
    (s.release v limit).val.waiting = s.val.waiting := by
  rw [State.release_eq]; rfl

@[simp] theorem State.release_stamp (s : State) (v : Fin 128) (limit : Nat) :
    (s.release v limit).val.stamp = s.val.stamp + 1 := by
  rw [State.release_eq]; rfl

/-- The Send List after a release: the voice joins the tail, or keeps its place (R97, R123). -/
theorem State.release_sendList (s : State) (v : Fin 128) (limit : Nat) : (s.release v limit).vbc.sendList =
    sendListAfter s.vbc.sendList v (s.voice v).pending
      (if (s.voice v).pending = .start then .startRelease else .release)
      (if (s.voice v).pending = .start then s.startContents v else none) := by
  rw [State.release_eq]; simp

/-- The voices after a command carried a voice's level (R127). -/
theorem State.levelSent_voice (s : State) (v w : Fin 128) : (s.levelSent v).voice w =
    if w = v then { s.voice v with lastSent := (s.voice v).target, dirty := false } else s.voice w := by
  simp [State.levelSent, State.setVoice_voice_eq]

/-- The voices after an accent was asked for one (R73). -/
theorem State.accent_voice (s : State) (v w : Fin 128) : (s.accent v).voice w =
    if w = v ∧ (s.voice v).pending = .none then { s.voice v with pending := .accent } else s.voice w := by
  unfold State.accent
  by_cases hp : (s.voice v).pending = .none <;> by_cases hw : w = v <;> simp [hp, hw]

/-- The voices after a level was decided afresh (R114, R115). -/
theorem State.updateLevel_voice (s : State) (v w : Fin 128) : (s.updateLevel v).voice w =
    match s.ownerSlot v with
    | some x => if w = v then { s.voice v with
        target := s.levelOf x, dirty := levelDirty s.exu.threshold (s.levelOf x) (s.voice v).lastSent } else s.voice w
    | none => s.voice w := by
  unfold State.updateLevel
  cases s.ownerSlot v <;> simp [State.setVoice_voice_eq]

/-- Two voices of one id are of one engine and local number. -/
theorem voiceOf_engine_local (v : Fin 128) : voiceOf (engineOf v) (localOf v) = v := by
  apply Fin.ext
  simp only [voiceOf, engineOf, localOf]
  omega

@[simp] theorem engineOf_voiceOf (e : Fin 4) (n : Nat) : engineOf (voiceOf e n) = e := by
  apply Fin.ext
  simp only [voiceOf, engineOf]
  omega

theorem mem_voicesOf (e : Fin 4) (v : Fin 128) : v ∈ voicesOf e ↔ engineOf v = e := by
  constructor
  · intro h
    obtain ⟨n, -, rfl⟩ := List.mem_map.1 h
    exact engineOf_voiceOf e n
  · rintro rfl
    exact List.mem_map.2 ⟨localOf v, List.mem_range.2 (Nat.mod_lt _ (by decide)), voiceOf_engine_local v⟩

/-! ## Records and slots -/

/-- The record of a key has that key. -/
theorem State.record_key {s : State} {k : Key} {x : Record} (h : s.record? k = some x) : x.key = k := by
  simpa using List.find?_some h

theorem State.record_mem {s : State} {k : Key} {x : Record} (h : s.record? k = some x) : x ∈ s.sdt.records :=
  List.mem_of_find?_eq_some h

/-- The record of any key after one that keeps its key was changed. -/
theorem State.changeRecord_record (s : State) (k k' : Key) (f : Record → Record) (hf : ∀ x, (f x).key = x.key) :
    (s.changeRecord k f).record? k' = (s.record? k').map fun x => if k' = k then f x else x := by
  have h : ∀ l : List Record, (l.map fun r => if r.key = k then f r else r).find? (fun r => r.key = k') =
      (l.find? fun r => r.key = k').map fun x => if k' = k then f x else x := by
    intro l
    induction l with
    | nil => rfl
    | cons a l ih =>
      simp only [List.map_cons, List.find?_cons]
      have hk : (if a.key = k then f a else a).key = a.key := by split <;> simp [hf]
      rw [hk]
      by_cases hc : a.key = k'
      · by_cases hq : k' = k
        · simp [hc, hq]
        · simp [hc, hq]
      · simp [hc, ih]
  exact h _

/-- The record of any key after one was deleted. -/
theorem State.dropRecord_record (s : State) (k k' : Key) :
    (s.dropRecord k).record? k' = if k' = k then none else s.record? k' := by
  by_cases h : k' = k
  · subst h
    simp [State.dropRecord, State.record?]
  · have hl : ∀ l : List Record, (l.filter fun r => r.key ≠ k).find? (fun r => r.key = k') =
        l.find? fun r => r.key = k' := by
      intro l
      induction l with
      | nil => rfl
      | cons a l ih =>
        by_cases hk : a.key = k'
        · simp [hk, h]
        · by_cases hq : a.key = k <;> simp_all
    rw [if_neg h]
    exact hl s.sdt.records

/-- Any slot after one was changed. -/
theorem State.changeSlot_slot (s : State) (r r' : SlotRef) (f : Slot → Slot) :
    (s.changeSlot r f).slot? r' = (s.slot? r').map fun x => if r' = r then f x else x := by
  unfold State.changeSlot State.slot?
  rw [State.changeRecord_record s r.key r'.key (fun x => { x with slots := x.slots.modify r.slot f }) fun _ => rfl]
  cases s.record? r'.key with
  | none => rfl
  | some x =>
    cases r with
    | mk rk rs =>
      cases r' with
      | mk k j =>
        by_cases hk : k = rk
        · subst hk
          by_cases hj : j = rs
          · subst hj; simp
          · have hj' : ¬ rs = j := fun e => hj e.symm
            simp only [Option.map_some, Option.bind_some, List.getElem?_modify, hj', if_true, if_false, SlotRef.mk.injEq,
              hj, and_false]
            cases x.slots[j]? <;> rfl
        · simp only [Option.map_some, Option.bind_some, hk, if_false, SlotRef.mk.injEq, false_and]
          cases x.slots[j]? <;> rfl

/-- Any slot after the status of one was changed. -/
theorem State.setStatus_slot (s : State) (r r' : SlotRef) (st : SlotStatus) :
    (s.setStatus r st).slot? r' = (s.slot? r').map fun x => if r' = r then { x with status := st } else x :=
  s.changeSlot_slot _ _ _

@[simp] theorem State.changeRecord_voice (s : State) (k : Key) (f : Record → Record) (w : Fin 128) :
    (s.changeRecord k f).voice w = s.voice w := rfl

@[simp] theorem State.setStatus_voice (s : State) (r : SlotRef) (st : SlotStatus) (w : Fin 128) :
    (s.setStatus r st).voice w = s.voice w := rfl

@[simp] theorem State.changeRecord_val (s : State) (k : Key) (f : Record → Record) : (s.changeRecord k f).val = s.val :=
  rfl

@[simp] theorem State.changeRecord_vbc (s : State) (k : Key) (f : Record → Record) : (s.changeRecord k f).vbc = s.vbc :=
  rfl

@[simp] theorem State.setStatus_val (s : State) (r : SlotRef) (st : SlotStatus) : (s.setStatus r st).val = s.val := rfl

@[simp] theorem State.setStatus_vbc (s : State) (r : SlotRef) (st : SlotStatus) : (s.setStatus r st).vbc = s.vbc := rfl

end Sys2Proof.Machine
end

