-- ==== Sys2Proof/Tests/Slice0.lean ====
section
/-! SUPPORT. Tests of the model on fixed values, the expected ones from the spec's worked sequences and tables, and for
each statement a state and operands that meet its hypotheses. -/

-- One theorem at a time: many at once ask for more threads than the memory limit of the check allows.
set_option Elab.async false

open Sys2Proof Sys2Proof.Machine Host

namespace Tests

/-! ## Small states -/

/-- The state a command's next state is. -/
def run (c : Instr) (s : State) : State :=
  match exec c s with
  | .next t => t
  | .fault _ => s
  | .refused _ => s

/-- The state a step's next state is. -/
def stepped (s : State) : State :=
  match step s with
  | .next t => t
  | .fault _ => s
  | .refused _ => s

/-- In PLAYING, with every scan accepting at once. -/
def playing : State :=
  { State.reset with
    act := { State.reset.act with activity := .playing }, ksu := { State.reset.ksu with debounceCount := 1 } }

/-- In RESTING. -/
def resting : State := { State.reset with act := { State.reset.act with activity := .resting } }

/-- With the bus in a given state. -/
def onBus (bus : BusState) (s : State) : State := { s with vbc := { s.vbc with bus := bus } }

/-- With engine E0 PRESENT and joined with eight voices, in RUNNING. -/
def running : State :=
  { playing with
    vbc := { playing.vbc with
      bus := .running, engines := #v[{ present := true, capacity := 8, absenceRun := 0 }, Engine.absent, Engine.absent,
        Engine.absent] }
    val := { playing.val with joined := #v[8, 0, 0, 0] } }

/-- The key of the one record of `lively`. -/
def theKey : Key := { side := .treble, pitch := 60 }

/-- The slot of `lively`'s record, VOICED with voice 0. -/
def theSlot : Slot :=
  { layer := Layer.default, soundingPitch := some 60, status := .voiced 0, override := none, mute := false }

/-- The record of `lively`, held by T36. -/
def theRecord : Record :=
  { key := theKey, holders := [.treble 36], stamp := 3, generation := 0, slots := [theSlot] }

/-- The voice that sounds in `lively`. -/
def theVoice : Voice :=
  { Voice.reset with
    state := .sounding, owner := some { key := theKey, slot := 0 }, tag := 2, eligibleFrom := some 9, target := 50
    lastSent := 40, dirty := true, startStamp := 4 }

/-- A frame tick that still owes its frame and its visits. -/
def owing : OpenTick := { bus := .running, frame := true, visits := true, millisecond := false }

/-- A part that plays one note: T36 pressed, its record VOICED with voice 0 of E0, an apply pass to visit it, a frame
waiting for its answer, and a tick that owes the next frame. -/
def lively : State :=
  { running with
    frameTicks := 40
    openTick := some owing
    ksu := { running.ksu with buttons := { running.ksu.buttons with state := BitVec.twoPow 96 36 } }
    htm := { running.htm with holds := [{ button := .treble 36, pitches := [60], pressTime := 7 }] }
    sdt := { records := [theRecord], serial := 4 }
    val := { running.val with voices := running.val.voices.set 0 theVoice, stamp := 5 }
    vbc := { running.vbc with answer := .awaiting }
    rsa := { running.rsa with generation := 1, pass := some { sides := .both, owner := 1 } } }

/-- In WAKING, E0 found. -/
def waking : State :=
  { playing with
    vbc := { playing.vbc with
      bus := .waking, wakeTimer := some 50, answer := .awaiting
      engines := #v[{ present := true, capacity := 8, absenceRun := 3 }, Engine.absent, Engine.absent,
        Engine.absent] } }

/-- A bass frame of no buttons and no tabs, with its sample's low byte and its last bytes. -/
def frameOf (sample b18 check : Nat) : BitVec 160 :=
  BitVec.ofNat 160 (0xB5 + sample * 2 ^ 136 + b18 * 2 ^ 144 + check * 2 ^ 152)

/-- An upstream frame of seven bytes. -/
def upstream (b0 b1 b2 b3 b4 b5 b6 : Nat) : BitVec 56 :=
  BitVec.ofNat 56 (b0 + b1 * 2 ^ 8 + b2 * 2 ^ 16 + b3 * 2 ^ 24 + b4 * 2 ^ 32 + b5 * 2 ^ 40 + b6 * 2 ^ 48)

/-! ## Well-formed commands: each check refuses an ill-formed term -/

theorem test_wf_character_begins_low : (Instr.bassCharacter 1).wf = false := by decide

theorem test_wf_frame_needs_its_marker : (Instr.acceptedFrame 0xFF).wf = false := by decide +kernel

theorem test_wf_frame_needs_its_check : (Instr.acceptedFrame 0xB5).wf = false := by decide +kernel

theorem test_wf_unknown_kind_is_unknown : (Instr.unknownRequest 0x19).wf = false := by decide

theorem test_wf_malformed_is_cut_short : (Instr.malformedRequest 0x02 2).wf = false := by decide

theorem test_wf_others_pass :
    (Instr.bassCharacter 0).wf ∧ (Instr.acceptedFrame (frameOf 0 0 0x4A)).wf ∧ (Instr.unknownRequest 0x1A).wf ∧
      (Instr.malformedRequest 0x02 1).wf := by decide +kernel

/-! ## Request bytes, written out from Table 12-5 -/

theorem test_no_word_spells_a_command : decodeTableWord 16 0x1234 = none := rfl

theorem test_decode_find : decodeTransaction [0x02, 0x01, 0x2D] = some (.find 1 45) := by decide +kernel

theorem test_decode_adjust : decodeTransaction [0x05, 0x00, 0x48, 0x01, 0x5A, 0x00] = some (.adjust 0 72 1 90 0) := by
  decide +kernel

theorem test_decode_clear_notices_low_byte_first :
    decodeTransaction [0x16, 0x01, 0x02, 0x10] = some (.clearNotices 0x100201) := by
  decide +kernel

theorem test_decode_ignores_bytes_beyond : decodeTransaction [0x0F, 0x03, 0x02, 0xEE, 0xEE] = some (.apply 3 2) := by
  decide +kernel

theorem test_decode_warm_reset_and_unknown :
    decodeTransaction [0x19] = some .warmReset ∧ decodeTransaction [0x1A] = some (.unknownRequest 0x1A) := by
  decide +kernel

/-! ## The spec's worked values -/

/-- Table 3-1, from rest to the target at sample 32. -/
theorem test_convergence_of_table_3_1 :
    (fun x => smoothed x 7888 2) 0 = 1972 ∧ (fun x => smoothed x 7888 2)^[3] 0 = 4560 ∧
      (fun x => smoothed x 7888 2)^[22] 0 = 7872 ∧ (fun x => smoothed x 7888 2)^[29] 0 = 7885 ∧
      (fun x => smoothed x 7888 2)^[32] 0 = 7888 ∧ smoothed 4437 0 2 = 3328 := by decide +kernel

/-- Table 3-2. -/
theorem test_limits_of_table_3_2 :
    offsetSample (-2048) 0 = -2047 ∧ offsetSample 2047 (-256) = 2047 ∧ bellowsLevel 2047 24 = 1023 ∧
      bellowsLevel 24 24 = 0 ∧ bellowsLevel 25 24 = 0 ∧ bellowsLevel 26 24 = 1 ∧ bellowsLevel 3 0 = 1 ∧
      bellowsLevel 257 255 = 1 ∧ bellowsLevel 2047 255 = 1023 ∧ bellowsLevel 1000 24 = 493 := by decide +kernel

/-- The three calibrations of 3.10, and the sensor that rests at 300. -/
theorem test_calibrated_offsets :
    calibratedOffset 496 = 31 ∧ calibratedOffset (-470) = -29 ∧ calibratedOffset 4800 = 255 := by decide +kernel

/-- The worked mapping of 4.3. -/
theorem test_worked_bass_mapping :
    bassPitches 40 52 48 = [40] ∧ bassPitches 40 52 49 = [48] ∧ bassPitches 40 52 50 = [60, 52, 55] ∧
      bassPitches 40 52 66 = [49] ∧ bassPitches 40 52 67 = [45] ∧ bassPitches 40 52 69 = [57, 60, 52] := by
  decide +kernel

/-- The worked level of 7.2, and its two variants. -/
theorem test_worked_level :
    let x : Slot := { theSlot with layer := { Layer.default with tilt := 2 }, soundingPitch := some 72 }
    slotLevel defaultCurve 4560 x = 29 ∧ slotLevel defaultCurve 4560 { x with soundingPitch := some 48 } = 26 ∧
      slotLevel #v[0, 16, 100, 60, 64, 80, 96, 112, 127] 4560 x = 72 ∧ slotLevel defaultCurve 1972 x = 13 := by
  decide +kernel

/-- Table 7-2, samples 8, 9 and 13 at threshold 2. -/
theorem test_dirty_of_table_7_2 :
    levelDirty 2 44 43 = false ∧ levelDirty 2 45 43 = true ∧ levelDirty 2 48 47 = false ∧ levelDirty 8 0 5 = true := by
  decide

/-- The DONE of 12.2, from E1 for local number 7 with tag 2. -/
theorem test_done_field :
    reportOf ((upstream 0 0x02 0x01 0x07 0x02 0x00 0xF3).extractLsb' 8 48) = some (.done 1 7 2) ∧
      reportOf ((upstream 0 0x02 0x01 0x07 0x02 0x00 0xF4).extractLsb' 8 48) = none ∧
      reportOf ((upstream 0 0x01 0x03 0x28 0x00 0x00 0xD3).extractLsb' 8 48) = some (.join 3 32) := by decide +kernel

/-- The bytes of the bass frame of R173: B50, BT1, sample 0x8FE and the fault bit. -/
theorem test_bass_frame_fields :
    let f : BitVec 160 := BitVec.ofNat 160 (0xB5 + 2 ^ (8 + 50) + 2 ^ 129 + 0xFE * 2 ^ 136 + 0x88 * 2 ^ 144)
    frameButtons f = BitVec.twoPow 120 50 ∧ frameTabs f = 2 ∧ frameSample f = -1794 ∧ frameFault f = true := by
  decide +kernel

/-- A bass character sent without noise reads as its byte at the trims −2, 0 and +2 (R19, R20). -/
theorem test_character_line :
    lineByte (characterLine 0xB5 (evenParity 0xB5) true) (-2) = 0xB5 ∧
      lineByte (characterLine 0xB5 (evenParity 0xB5) true) 2 = 0xB5 ∧
      parityGood (characterLine 0xB5 (evenParity 0xB5) true) 0 = true ∧
      parityGood (characterLine 0xB5 (!evenParity 0xB5) true) 0 = false := by decide +kernel

/-! ## Single events -/

/-- R56, R75: T36 pressed with one engine PRESENT and its voices free: pitch 60, VOICED with voice 0, START pending.
-/
theorem test_press_is_voiced :
    let t := run (.scanCompletion (BitVec.twoPow 96 36) 0 0) running
    (t.slot? { key := theKey, slot := 0 }).map (·.status) = some (.voiced 0) ∧ (t.voice 0).pending = .start ∧
      (t.voice 0).tag = 1 := by decide +kernel

/-- R127, Table 12-3: that START in the next NORMAL frame, units 1 to 3. -/
theorem test_start_is_placed :
    let t := run .normalFrame (run (.scanCompletion (BitVec.twoPow 96 36) 0 0) running)
    (areaOf t.vbc.downstream).take 12 = [0x10, 0, 1, 60, 0, 0, 0, 0, 0, 0, 0, 0] ∧ t.vbc.sendList = [] := by
  decide +kernel

/-- R11, R153: a settled pattern that no entry has sets TAB_NOMATCH. -/
theorem test_settle_without_a_match :
    let s : State := { playing with ksu := { playing.ksu with
      tabs := { playing.ksu.tabs with state := 5 }, group := { playing.ksu.group with state := .settling 0 } } }
    (run (.settleExpiry .treble) s).noticeSet .tabNomatch = true ∧
      (run (.settleExpiry .treble) s).ksu.group.reference = 5 := by decide +kernel

/-- R99: a tail at its moment is cut. -/
theorem test_tail_overrun :
    let s := running.setVoice 3 { Voice.reset with state := .releasing, tail := .moment 0 }
    ((run (.tailExpiry 3) s).voice 3).state = .cutting ∧ (run (.tailExpiry 3) s).noticeSet .tailOverrun = true := by
  decide +kernel

/-- R29: a link that is UP is LOST, and in AUTO the other conductor is used. -/
theorem test_link_loss :
    let s : State := { playing with blr := { playing.blr with link := .up } }
    (run .lossTimerExpiry s).blr.link = .lost ∧ (run .lossTimerExpiry s).blr.conductor = .spare := by decide +kernel

/-- R135: a wake with no engine fails. -/
theorem test_wake_fails :
    let t := run .wakeTimerExpiry (onBus .waking playing)
    t.vbc.bus = .quiet ∧ t.vbc.holdOff = some 32 ∧ t.vbc.wakeAttempts = 1 := by decide +kernel

/-- R156, R133: START with the bus QUIET wakes it. -/
theorem test_start_wakes_the_bus :
    let t := run .start (onBus .quiet State.reset)
    t.act.activity = .playing ∧ t.vbc.bus = .waking ∧ t.vbc.wakeTimer = some 100 := by decide +kernel

/-- R164: in the busy window the answer is NOT_READY. -/
theorem test_early_transaction :
    (run .nop (run .nop State.reset)).dataOut 0 = 0x05 ∧ (run .nop (run .nop State.reset)).dataOut 1 = 0xFF := by
  decide +kernel

/-- Table 12-7: the lengths of the long responses. -/
theorem test_response_lengths :
    (run .status lively).cpt.response.payload.length = 30 ∧ (run .getSetup lively).cpt.response.payload.length = 44 ∧
      (run (.voice 0) lively).cpt.response.payload.length = 29 ∧
      (run (.getReg 0) lively).cpt.response.payload.length = 98 := by decide +kernel

/-- R1: two frames of a RUNNING bus are built at two frame ticks. -/
theorem test_each_frame_has_its_tick : (run .normalFrame (run .normalFrame running)).frameTicks = 2 := by decide +kernel

/-- R163: most significant bit first, the bits of an incomplete byte discarded. -/
theorem test_received_bits :
    receivedBytes [true, false, true, true, false, true, false, true, true] = [0xB5] := by decide

/-- Equal stamps keep their order (log 14). -/
theorem test_sort_keeps_equals_in_order :
    sortBy (fun p : Nat × Nat => p.1) [(1, 0), (0, 1), (1, 2), (0, 3)] = [(0, 1), (0, 3), (1, 0), (1, 2)] := by decide

/-- R158: with the count below the hush time there is no expiry. -/
theorem test_no_hush_expiry_before_the_count : (run .hushExpiry playing).act.activity = .playing := by decide +kernel

/-! ## `lively` is lawful -/

theorem lively_record (k : Key) : lively.record? k = if k = theKey then some theRecord else none := by
  by_cases h : k = theKey
  · subst h; decide +kernel
  · have h' : ¬ theKey = k := fun e => h e.symm
    simp [State.record?, lively, theRecord, h, h']

theorem lively_slot (r : SlotRef) :
    lively.slot? r = if r = { key := theKey, slot := 0 } then some theSlot else none := by
  obtain ⟨k, j⟩ := r
  simp only [State.slot?, lively_record]
  by_cases h : k = theKey
  · subst h
    cases j with
    | zero => decide +kernel
    | succ j => simp [theRecord]
  · simp [h]

theorem lively_voice (v : Fin 128) : lively.voice v = if v = 0 then theVoice else Voice.reset := by
  revert v; decide +kernel

theorem default_inRange : Layer.default.inRange := by constructor <;> decide

theorem lively_settings : lively.SettingsInRange where
  debounce := by decide
  settle := by decide
  octave := by decide
  recalls := by decide
  trim := by decide
  lossTime := by decide
  offset := by decide
  deadBand := by decide
  restCount := by decide
  window := by decide
  shift := by decide
  map := fun i x h => by
    have e : ∀ i : Fin 96, lively.htm.map[i] = some i.val := by decide +kernel
    rw [e] at h; cases h; exact Nat.le_pred_of_lt i.isLt
  trebleBase := by decide
  bassBase := by decide
  chordBase := by decide
  minSounding := by decide
  threshold := by decide
  expected := by decide
  wakeTime := by decide
  hushTime := by decide
  table := fun n => by
    have : lively.rsa.table[n].treble.layers = [Layer.default] ∧ lively.rsa.table[n].bass.layers = [Layer.default] := by
      revert n; decide +kernel
    rw [this.1, this.2]
    exact ⟨⟨by decide, by simpa using default_inRange⟩, ⟨by decide, by simpa using default_inRange⟩⟩
  copies := fun side => by
    cases side <;>
      exact ⟨by decide, by simpa [State.current, lively, running, playing, State.reset] using default_inRange⟩

theorem lively_counts : lively.CountsInRange where
  disagree := by decide +kernel
  errors := by decide
  runs := by decide
  smoothed := by decide
  points := by decide +kernel
  overrides := by decide +kernel
  levels := fun v => by rw [lively_voice]; split <;> decide
  attempts := by decide
  hush := by decide

theorem lively_bus : lively.BusLaws where
  present := by decide +kernel
  engines := by decide +kernel
  playing := by decide +kernel
  wakeTimer := by decide +kernel
  closeTimer := by decide +kernel
  holdOff := by decide +kernel
  clears := by decide +kernel
  rests := by decide +kernel
  hush := by decide +kernel

theorem lively_sends : lively.SendListLaw where
  once := by decide +kernel
  pending := by decide +kernel
  contents := by decide +kernel

theorem lively_voices : lively.VoiceLaws where
  lawful := fun v => by rw [lively_voice]; split <;> simp [Voice.lawful, theVoice, Voice.reset]
  inUse := by decide +kernel
  joined := by decide +kernel

/-- The slots of the records, by name. -/
def refs (s : State) : List SlotRef :=
  s.sdt.records.flatMap fun x => (List.range x.slots.length).map fun j => { key := x.key, slot := j }

theorem mem_refs {s : State} {r : SlotRef} (h : s.slot? r ≠ none) : r ∈ refs s := by
  obtain ⟨y, hy⟩ := Option.ne_none_iff_exists'.1 h
  obtain ⟨x, hx, hs⟩ := Option.bind_eq_some_iff.1 hy
  have hk : x.key = r.key := by simpa using List.find?_some hx
  refine List.mem_flatMap.2 ⟨x, List.mem_of_find?_eq_some hx, List.mem_map.2 ⟨r.slot, ?_, ?_⟩⟩
  · exact List.mem_range.2 (List.getElem?_eq_some_iff.1 hs).1
  · rw [hk]

/-- The laws of the tables as checks over the slots, the voices and the entries that the part has. -/
abbrev TableChecks (s : State) : Prop :=
  (s.sdt.records.Pairwise (fun x y => x.key.place < y.key.place) ∧ s.sdt.records.length ≤ recordLimit ∧
    ∀ x ∈ s.sdt.records, x.key.pitch ≤ 127 ∧
      (x.holders.Nodup ∧ x.holders.length ≤ holderLimit ∧ ∀ b ∈ x.holders, b.side = x.key.side) ∧ x.slots.length ≤ 4) ∧
  (∀ r ∈ refs s, (∀ y ∈ s.slot? r, y.soundingPitch = soundingPitch r.key.pitch y.layer.transpose ∧
      (y.status = .skipped ↔ y.soundingPitch = none)) ∧
    (∀ v, (s.slot? r).map (·.status) = some (.voiced v) ↔ (s.voice v).owner = some r) ∧
    (r ∈ s.val.waiting ↔
      (s.slot? r).map (·.status) = some .waiting ∨ (s.slot? r).map (·.status) = some .starved)) ∧
  (∀ v, ∀ r ∈ (s.voice v).owner, r ∈ refs s ∧ (s.voice v).side = r.key.side) ∧
  (s.val.waiting.Nodup ∧ ∀ r ∈ s.val.waiting, r ∈ refs s) ∧
  (s.vbc.bus = .running → ∀ r ∈ s.val.waiting, ∀ v, s.available v = true → (s.voice v).state = .free →
    (s.slotMask r).getLsbD (engineOf v).val = false)

theorem table_of (s : State) (h : TableChecks s) : s.TableLaws :=
  { order := h.1.1
    count := h.1.2.1
    pitch := fun x hx => (h.1.2.2 x hx).1
    holders := fun x hx => (h.1.2.2 x hx).2.1
    slots := fun x hx => (h.1.2.2 x hx).2.2
    sounding := fun r y hy => (h.2.1 r (mem_refs (by rw [hy]; exact nofun))).1 y hy
    voiced := fun r v => by
      by_cases hr : r ∈ refs s
      · exact (h.2.1 r hr).2.1 v
      · have hn : s.slot? r = none := by_contra fun e => hr (mem_refs e)
        rw [hn]
        exact ⟨nofun, fun e => absurd (h.2.2.1 v r e).1 hr⟩
    side := fun v r e => (h.2.2.1 v r e).2
    waitingOnce := h.2.2.2.1.1
    waiting := fun r => by
      by_cases hr : r ∈ refs s
      · exact (h.2.1 r hr).2.2
      · have hn : s.slot? r = none := by_contra fun e => hr (mem_refs e)
        rw [hn]
        exact ⟨fun e => absurd (h.2.2.2.1.2 r e) hr, by simp⟩
    served := h.2.2.2.2 }

/-- The laws of the tables for any part with one record, of one slot, VOICED with voice 0. -/
theorem one_note_table (s : State) (x : Record) (y : Slot) (hr : s.sdt.records = [x]) (hk : x.key = theKey)
    (hh : x.holders.Nodup ∧ x.holders.length ≤ holderLimit ∧ ∀ b ∈ x.holders, b.side = .treble) (hx : x.slots = [y])
    (hy : y.status = .voiced 0 ∧ y.soundingPitch = some 60 ∧ soundingPitch 60 y.layer.transpose = some 60)
    (hv : ∀ v, (s.voice v).owner = if v = 0 then some { key := theKey, slot := 0 } else none)
    (h0 : (s.voice 0).side = .treble) (hw : s.val.waiting = []) : s.TableLaws := by
  have hrefs : refs s = [{ key := theKey, slot := 0 }] := by simp [refs, hr, hx, hk]
  have hslot : s.slot? { key := theKey, slot := 0 } = some y := by simp [State.slot?, State.record?, hr, hk, hx]
  refine table_of s ⟨by simp_all [recordLimit, theKey], ?_, fun v r e => ?_, by simp [hw], by simp [hw]⟩
  · intro r e
    obtain rfl := List.mem_singleton.1 (hrefs ▸ e)
    refine ⟨fun z hz => ?_, fun v => ?_, by simp [hslot, hw, hy.1]⟩
    · cases hslot.symm.trans hz; simp [theKey, hy.2.1, hy.2.2, hy.1]
    · rw [hslot, hv]; by_cases e : v = 0 <;> simp [e, hy.1, eq_comm]
  · rw [Option.mem_def, hv] at e
    split at e
    · rename_i h; subst h; cases e; exact ⟨by simp [hrefs], h0⟩
    · cases e

theorem lively_table : lively.TableLaws := table_of lively (by decide +kernel)

/-- The laws of the holds as checks over the holds and the records that the part has. -/
abbrev HoldChecks (s : State) : Prop :=
  ((s.htm.holds.map (·.button)).Nodup ∧ s.htm.holds.length ≤ holdLimit) ∧
  (∀ h ∈ s.htm.holds, (h.pitches.Nodup ∧ h.pitches.length ≤ 3) ∧
    ∀ p ∈ h.pitches, ∃ x ∈ s.sdt.records, x.key = { side := h.button.side, pitch := p } ∧ h.button ∈ x.holders) ∧
  (∀ x ∈ s.sdt.records, (∀ b ∈ x.holders, b.side = x.key.side ∧
      ∃ h ∈ s.htm.holds, h.button = b ∧ x.key.pitch ∈ h.pitches) ∧
    (x.holders = [] → s.sustain x.key.side = true)) ∧
  s.act.activity ≠ .setup

theorem hold_of (s : State) (h : HoldChecks s) : s.HoldLaws :=
  { once := h.1.1
    count := h.1.2
    pitches := fun x hx => (h.2.1 x hx).1
    agree := fun b side pitch => by
      constructor
      · rintro ⟨g, hg, rfl, rfl, hp⟩
        exact (h.2.1 g hg).2 pitch hp
      · rintro ⟨x, hx, hk, hb⟩
        obtain ⟨e, g, hg, rfl, hp⟩ := (h.2.2.1 x hx).1 b hb
        rw [hk] at e hp
        exact ⟨g, hg, rfl, e, hp⟩
    sustained := fun x hx => (h.2.2.1 x hx).2
    setup := fun e => absurd e h.2.2.2 }

theorem lively_holds : lively.HoldLaws := hold_of lively (by decide +kernel)

theorem lively_lawful : lively.Lawful :=
  ⟨lively_settings, lively_bus, lively_sends, lively_voices, lively_table, lively_holds⟩

/-! ## Witnesses: for each statement with hypotheses, states and operands that meet them, clause by clause -/

/-- Whether a command answers a next state of a kind. -/
def leads (p : State → Bool) (c : Instr) (s : State) : Bool :=
  match exec c s with
  | .next t => p t
  | _ => false

theorem leads_to {p : State → Prop} [DecidablePred p] {c : Instr} {s : State}
    (h : leads (fun t => decide (p t)) c s = true) :
    ∃ t, exec c s = .next t ∧ p t := by
  unfold leads at h
  split at h
  · exact ⟨_, ‹_›, of_decide_eq_true h⟩
  · cases h

/-- Held in reset. -/
def held : State := { State.reset with heldInReset := true }

/-- With the busy window open. -/
def busy : State := { State.reset with cpt := { State.reset.cpt with busy := true } }

theorem reset_ready : State.reset.ready := ⟨rfl, rfl⟩

theorem lively_ready : lively.ready := ⟨rfl, rfl⟩

theorem witness_StepRunsTheFrontCommand :
    ({ State.reset with pending := [.nop, .status] } : State).pending = .nop :: [.status] := rfl

/-- A tick that began in a bus state and owes nothing but, if it is a millisecond tick, the expiries. -/
def spent (bus : BusState) (millisecond : Bool) : OpenTick := { bus, frame := false, visits := false, millisecond }

/-- In a bus state, with the wake timer that WAKING has, and a tick that stands. -/
def ticking (bus : BusState) (n : Nat) (o : Option OpenTick) : State :=
  { playing with
    frameTicks := n, openTick := o
    vbc := { playing.vbc with bus := bus, wakeTimer := if bus = .waking then some 50 else none } }

/-- Held and not; with a tick that a command began and with none; each bus state and a pass, with no tick standing,
at a millisecond tick and short of one, and with one that has been taken, or that began in another bus state. -/
theorem witness_EmptyQueueLetsOneFrameTickPass :
    (held.pending = [] ∧ held.heldInReset = true) ∧
    (lively.pending = [] ∧ lively.heldInReset = false ∧ lively.openTick ≠ none) ∧
    (playing.pending = [] ∧ playing.heldInReset = false ∧ playing.openTick = none) ∧
    (∀ bus n o, (ticking bus n o).heldInReset = false ∧ (ticking bus n o).openTick = o ∧
      (ticking bus n o).vbc.bus = bus ∧ (ticking bus n o).frameTicks = n) ∧
    (ticking .waking 8 none).tick.vbc.bus = .waking ∧
    (∀ bus ∈ [BusState.running, .closing, .waking], ∀ o ∈ [spent bus false, { owing with bus := .quiet }],
      (ticking bus 9 (some o)).tick.vbc.bus = bus ∧ ¬ (o.frame = true ∧ o.bus = bus)) ∧
    ((ticking .waking 9 (some { owing with bus := .waking })).tick.vbc.bus = .waking ∧ ¬ 9 % 4 = 0) ∧
    ({ lively with openTick := none } : State).rsa.pass ≠ none ∧
    let s : State := { lively with openTick := some (spent .running true) }
    s.heldInReset = false ∧ s.rsa.pass ≠ none ∧ s.openTick = some (spent .running true) ∧ s.tick.rsa.pass ≠ none := by
  refine ⟨⟨rfl, rfl⟩, ⟨rfl, rfl, nofun⟩, ⟨rfl, rfl, rfl⟩, fun _ _ _ => ⟨rfl, rfl, rfl, rfl⟩, ?_⟩
  decide +kernel

/-- A resting part at the 20th byte of a frame, with a frame of a pressed B0 complete and waiting. -/
def framesMeet : State :=
  { resting with blr := { resting.blr with
    receiver := .idle, assembler := .collecting (0xB5 :: List.replicate 18 0)
    complete := some (frameOf 0 0 0x49 + 256) } }

/-- A quiet part that has counted its hush time. -/
def restful : State := { playing with act := { playing.act with hush := 20000 } }

/-- A resting part whose scans accept at once, each chin switch one of NOTICE. -/
def dozing : State :=
  { playing with
    act := { playing.act with activity := .resting }
    ksu := { playing.ksu with switches := Vector.replicate 4 { ChinSwitch.reset with action := .notice } } }

/-- Commands with a state in which each moves the activity state. -/
def movers : List (Instr × State) :=
  [(Instr.coldReset, playing), (.warmReset, playing), (.start, State.reset), (.hushExpiry, restful),
    (.normalFrame, { onBus .running restful with openTick := some (spent .running true) }), (.wake, resting),
    (.scanCompletion 1 0 0, dozing), (.acceptedFrame (frameOf 0x64 0 0xE6), resting),
    (.bassCharacter (characterLine 0x4A (evenParity 0x4A) true), framesMeet), (.acceptedFrame 0, framesMeet),
    (.putSetup 0, framesMeet),
    (.closeFrame, { onBus .closing framesMeet with openTick := some (spent .closing false) })]

theorem witness_ActivityMovesOnlyAsTable101 :
    (∀ q ∈ movers, ∃ t, exec q.1 q.2 = .next t ∧ t.act.activity ≠ q.2.act.activity) ∧
    (dozing.heldInReset = false ∧ dozing.act.activity = .resting ∧ dozing.scanWakes 1 0 0 ∧ dozing.scanWakes 0 0x800 0 ∧
      dozing.scanWakes 0 0 8) ∧
    resting.heldInReset = false ∧ resting.blr.complete = none ∧ resting.frameWakes (frameOf 0x64 0 0xE6) ∧
      resting.frameWakes (frameOf 0 0 0x49 + 256) ∧
        resting.frameWakes (BitVec.ofNat 160 (0xB5 + 2 ^ 132 + 0x3A * 2 ^ 152)) := by
  have key : ∀ q ∈ movers, leads (fun t => decide (t.act.activity ≠ q.2.act.activity)) q.1 q.2 = true :=
      by decide +kernel
  refine ⟨fun q h => leads_to (key q h), ⟨rfl, rfl, .inl ⟨0, by decide +kernel⟩, .inr (.inr ⟨11, ?_⟩),
    .inr (.inl ⟨3, by decide +kernel⟩)⟩,
    rfl, rfl, ⟨?_, .inr (.inr ?_)⟩, ⟨?_, .inl ⟨0, ?_⟩⟩, ?_, .inr (.inl ?_)⟩
  all_goals first | decide +kernel | (unfold TabGroup.departs; decide +kernel)

theorem witness_NoticesStayUntilCleared :
    (∀ mask, Instr.nop ≠ .clearNotices mask) ∧ Instr.nop ≠ .coldReset ∧ Instr.nop ≠ .warmReset ∧
      (∃ t, exec .nop (State.reset.setNotice .woke) = .next t) ∧ (State.reset.setNotice .woke).noticeSet .woke = true :=
  ⟨nofun, by decide, by decide, ⟨_, rfl⟩, by decide +kernel⟩

/-- Both groups settled on a pattern that is not their reference, at a millisecond tick that stands. -/
def settled : State :=
  { onBus .running playing with
    openTick := some (spent .running true)
    ksu := { playing.ksu with
      tabs := { playing.ksu.tabs with state := 5 }, group := { playing.ksu.group with state := .settling 0 } }
    blr := { playing.blr with tabImage := 5, group := { playing.blr.group with state := .settling 0 } } }

/-- Commands that move the treble reference of `settled`. -/
def movingReferences : List Instr := [.settleExpiry .treble, .normalFrame, .putSetup (1 <<< 32)]

theorem witness_StoredSettingsChangeOnlyByTheirRequests :
    (∃ t, exec .warmReset lively = .next t) ∧ Instr.warmReset ≠ .coldReset ∧ (∀ x, Instr.warmReset ≠ .putSetup x) ∧
      (∀ x a b d, Instr.warmReset ≠ .putMap x a b d) ∧ (∀ n y, Instr.warmReset ≠ .putCurve n y) ∧
      (∀ n x y, Instr.warmReset ≠ .putReg n x y) ∧ (∀ m, Instr.warmReset ≠ .enable m) ∧
      ∀ c ∈ movingReferences, c ≠ .coldReset ∧
        ∃ t, exec c settled = .next t ∧ t.ksu.group.reference ≠ settled.ksu.group.reference := by
  refine ⟨⟨_, rfl⟩, ?_, ?_, ?_, ?_, ?_, ?_, fun c h => ?_⟩
  rotate_right
  · have key : ∀ c ∈ movingReferences, c ≠ .coldReset ∧
        leads (fun t => decide (t.ksu.group.reference ≠ settled.ksu.group.reference)) c settled = true :=
          by decide +kernel
    exact ⟨(key c h).1, leads_to (key c h).2⟩
  all_goals (intros; intro h; injection h)

theorem witness_EveryStepKeepsSettingsInRange : ∃ s t : State, s.SettingsInRange ∧ step s = .next t :=
  ⟨lively, _, lively_settings, rfl⟩

theorem witness_EveryStepKeepsCountsInRange :
    ∃ s t : State, s.SettingsInRange ∧ s.CountsInRange ∧ step s = .next t :=
  ⟨lively, _, lively_settings, lively_counts, rfl⟩

theorem witness_EveryStepKeepsTheBusLaws : ∃ s t : State, s.BusLaws ∧ step s = .next t :=
  ⟨lively, _, lively_bus, rfl⟩

theorem witness_EveryStepKeepsTheLawsOfTheTables : ∃ s t : State, s.Lawful ∧ step s = .next t :=
  ⟨lively, _, lively_lawful, rfl⟩

theorem witness_ColdResetHoldsThePartAtItsTables :
    held.heldInReset = true ∧ Instr.nop ≠ .coldReset ∧ Instr.nop ≠ .leavingColdReset ∧
      State.reset.heldInReset = false := by
  decide

theorem witness_WarmResetKeepsWhatIsStored : lively.ready := lively_ready

theorem witness_RequestBytesDecodeToTheRequest :
    encodeRequest (.find 0 60) = some [0x02, 0, 60] ∧ 0 < [(0 : Byte), 60].length ∧ 1 < [(0 : Byte), 60].length ∧
      0x1A ≤ (0x1A : Byte).toNat ∧ 0x1A ≤ (0xFF : Byte).toNat ∧ (List.replicate 7 true).length < 8 ∧
      ([] : List Bool).length < 8 := by decide

theorem witness_RequestsAreTakenOneByOne :
    Instr.nop.isRequest = true ∧ State.reset.ready ∧ busy.heldInReset = false ∧ busy.cpt.busy = true :=
  ⟨rfl, reset_ready, rfl, rfl⟩

/-- Requests that are refused right after reset, with the status of each. -/
def refusals : List (Instr × Status) :=
  [(.find 0 60, .noRecord), (.voice 128, .badArg), (.wake, .wrongState), (.malformedRequest 2 1, .malformed),
    (.unknownRequest 0x1A, .unknown)]

theorem witness_RefusedRequestsChangeNoState :
    State.reset.ready ∧
    ∀ q ∈ refusals, q.1.isRequest = true ∧ ∃ t, exec q.1 State.reset = .next t ∧ t.cpt.response.status = q.2 := by
  have key : ∀ q ∈ refusals, q.1.isRequest = true ∧
      leads (fun t => decide (t.cpt.response.status = q.2)) q.1 State.reset = true := by decide +kernel
  exact ⟨reset_ready, fun q h => ⟨(key q h).1, leads_to (key q h).2⟩⟩

theorem witness_StatusReportsThePart :
    lively.ready ∧ lively.CountsInRange ∧ lively.TableLaws ∧ lively.HoldLaws ∧ lively.SendListLaw ∧
      ∃ p, lively.rsa.pass = some p :=
  ⟨lively_ready, lively_counts, lively_table, lively_holds, lively_sends, _, rfl⟩

theorem witness_VoiceReportsTheEntry :
    lively.ready ∧ 128 ≤ (128 : Byte).toNat ∧ (127 : Byte).toNat = (127 : Fin 128).val ∧
      (lively.voice 0).owner = some { key := theKey, slot := 0 } ∧ (lively.voice 127).owner = none ∧
      (lively.voice 127).tail = .absent ∧ ((lively.release 0 9).voice 0).tail = .length 9 ∧
      ((lively.setVoice 0 { theVoice with tail := .moment 9 }).voice 0).tail = .moment 9 :=
  ⟨lively_ready, by decide +kernel⟩

theorem witness_NoticeAndPlainRequestsDoWhatTheySay : lively.ready := lively_ready

theorem witness_PutSetupOfGetSetupChangesNothing :
    lively.ready ∧ lively.SettingsInRange ∧ lively.blr.complete = none :=
  ⟨lively_ready, lively_settings, rfl⟩

/-- Settings of zeros are accepted; line select 3 is refused; line select 2 is the last accepted. A frame that waits
and none; both groups written with the values they have, and with others. -/
theorem witness_PutSetupWritesEverySetting :
    lively.ready ∧
    (let x : BitVec 352 := 0
     (∀ n, n < 4 → (byteAt x (8 + 5 * n)).toNat ≤ 2 ∧ (byteAt x (9 + 5 * n)).toNat ≤ 7 ∧
      (byteAt x (10 + 5 * n)).toNat ≤ 2 ∧ (byteAt x (12 + 5 * n)).toNat ≤ 2) ∧ (byteAt x 29).toNat ≤ 2) ∧
    ¬ (byteAt (3 <<< (8 * 29) : BitVec 352) 29).toNat ≤ 2 ∧ (byteAt (2 <<< (8 * 29) : BitVec 352) 29).toNat ≤ 2 ∧
    lively.blr.complete = none ∧ framesMeet.ready ∧ (∃ f, framesMeet.blr.complete = some f) ∧
    (let x : BitVec 352 := 0xFFF <<< 16 + 0x1F <<< 48
     x.extractLsb' 16 12 = lively.ksu.group.mask ∧ x.extractLsb' 32 12 = lively.ksu.group.reference ∧
      x.extractLsb' 48 5 = lively.blr.group.mask ∧ x.extractLsb' 56 5 = lively.blr.group.reference) ∧
    (0 : BitVec 352).extractLsb' 16 12 ≠ lively.ksu.group.mask ∧
      (0 : BitVec 352).extractLsb' 48 5 ≠ lively.blr.group.mask :=
  ⟨lively_ready, by decide +kernel, by decide +kernel, by decide +kernel, rfl, ⟨rfl, rfl⟩, ⟨_, rfl⟩, by decide +kernel⟩

/-- The last entry and the first beyond; a count of 5, a mode of 2 and an engine mask of 0 are bad, zeros are not. -/
theorem witness_RegistrationsAreWrittenAndRead :
    lively.ready ∧ lively.SettingsInRange ∧ (31 : Byte).toNat < 32 ∧ 32 ≤ (32 : Byte).toNat ∧
    (let bad := fun x : BitVec 392 => 4 < (byteAt x 0).toNat ∨ 1 < (byteAt x 1).toNat ∨
      ∃ j, j < (byteAt x 0).toNat ∧ (byteAt x (12 + 11 * j)).setWidth 4 = (0 : BitVec 4)
     bad 5 ∧ bad 0x200 ∧ bad 1 ∧ ¬ bad 0 ∧ ¬ bad (1 + 1 <<< 96)) :=
  ⟨lively_ready, lively_settings, by decide +kernel⟩

theorem witness_CurvesAndTheMapAreWritten :
    lively.ready ∧ 16 ≤ (16 : Byte).toNat ∧ (15 : Byte).toNat < 16 ∧
      (lively.ownerSlot 0).map (·.layer.curve) = some 0 ∧ lively.ownerSlot 1 = none :=
  ⟨lively_ready, by decide +kernel⟩

theorem witness_ScanFollowsTheContacts :
    State.reset.heldInReset = false ∧ State.reset.act.activity = .setup ∧ playing.heldInReset = false ∧
      playing.acceptsChins 0 0 0 0 ∧ playing.hushed :=
  ⟨rfl, rfl, rfl, by decide +kernel, fun _ _ => rfl⟩

/-- One chin switch pressed at a scan, and nothing else. -/
theorem scan_accepts_a_chin (n : Fin 4) : playing.acceptsChins 0 0 (BitVec.twoPow 4 n.val) (BitVec.twoPow 4 n.val) := by
  revert n; decide +kernel

/-- Whatever the settings of the switches: a press of the first and a press of the last. -/
theorem witness_ChinSwitchEdgeRunsItsAction (c : ChinSwitch) :
    let s : State := { playing with ksu := { playing.ksu with switches := Vector.replicate 4 c } }
    s.heldInReset = false ∧ s.act.activity ≠ .setup ∧ -2 ≤ s.ksu.octave ∧ s.ksu.octave ≤ 2 ∧
      s.acceptsChins 0 0 1 (BitVec.twoPow 4 0) ∧ s.acceptsChins 0 0 8 (BitVec.twoPow 4 3) ∧
      s.ksu.latentChins.getLsbD 0 = false ∧ s.ksu.chins.state.getLsbD 0 = !(1 : BitVec 4).getLsbD 0 ∧
      s.ksu.switches[(0 : Fin 4)] = c :=
  ⟨rfl, nofun, (by decide : (-2 : Int) ≤ 0), (by decide : (0 : Int) ≤ 2), scan_accepts_a_chin 0, scan_accepts_a_chin 3,
    (by decide : (0 : BitVec 4).getLsbD 0 = false),
      (by decide : (0 : BitVec 4).getLsbD 0 = !(1 : BitVec 4).getLsbD 0), rfl⟩

/-- A part whose switches flip both sustain states, its records as given. -/
def sustained (records : List Record) (voices : Vector Voice 128) : State :=
  { running with
    ksu := { running.ksu with
      switches := Vector.replicate 4 { ChinSwitch.reset with action := .sustainToggle } }
    htm := { running.htm with trebleSustain := true, bassSustain := true }
    sdt := { records := records, serial := 9 }, val := { running.val with voices := voices } }

/-- Two SUSTAINED treble records, the higher one the older, a SUSTAINED bass record and a HELD one, a voice to each.
-/
def pedalled : State :=
  let record := fun (k : Key) (v : Fin 128) (stamp : BitVec 32) (holders : List Button) =>
    ({ key := k, holders, stamp, generation := 0
       slots := [{ layer := Layer.default, soundingPitch := some k.pitch, status := .voiced v, override := none
                   mute := false }] } : Record)
  let voice := fun k : Key => { theVoice with owner := some { key := k, slot := 0 }, side := k.side }
  let low : Key := { side := .treble, pitch := 60 }
  let high : Key := { side := .treble, pitch := 64 }
  let bass : Key := { side := .bass, pitch := 40 }
  let kept : Key := { side := .bass, pitch := 43 }
  sustained [record low 0 5 [], record high 1 2 [], record bass 2 1 [], record kept 3 4 [.bass 13]]
    ((((running.val.voices.set 0 (voice low)).set 1 (voice high)).set 2 (voice bass)).set 3 (voice kept))

/-- Records that retire as sustain goes OFF, in the order of their stamps on a side and treble before bass, and one
that is HELD; no record that retires. -/
theorem witness_ChinSwitchEdgeRunsItsAction_sustain :
    (pedalled.heldInReset = false ∧ pedalled.act.activity ≠ .setup ∧ pedalled.acceptsChins 0 0 1 (BitVec.twoPow 4 0) ∧
      pedalled.TableLaws ∧ pedalled.sustain .treble = true ∧ pedalled.sustain .bass = true ∧
      pedalled.sdt.records.map (fun x => (x.holders.length, x.stamp.toNat)) = [(0, 5), (0, 2), (0, 1), (1, 4)] ∧
      ∃ t, exec (.scanCompletion 0 0 1) pedalled = .next t ∧ t.sustain .treble = false ∧ t.sustain .bass = false) ∧
    ∃ t, exec (.scanCompletion 0 0 1) (sustained [] running.val.voices) = .next t ∧ t.sustain .treble = false := by
  exact ⟨⟨rfl, nofun, by decide +kernel, table_of _ (by decide +kernel), rfl, rfl, by decide +kernel,
      leads_to (p := fun t => t.sustain .treble = false ∧ t.sustain .bass = false) (by decide +kernel)⟩,
    leads_to (p := fun t => t.sustain .treble = false) (by decide +kernel)⟩

/-- A resting part, and a latent switch that is released. -/
theorem witness_ChinSwitchEdgeRunsItsAction_latent :
    dozing.heldInReset = false ∧ dozing.act.activity = .resting ∧ dozing.acceptsChins 0 0 8 (BitVec.twoPow 4 3) ∧
      let s : State := { playing with ksu := { playing.ksu with
        latentChins := 8, chins := { playing.ksu.chins with state := 8 } } }
      s.heldInReset = false ∧ s.act.activity ≠ .setup ∧ s.hushed ∧ s.acceptsChins 0 0 0 (BitVec.twoPow 4 3) ∧
        s.ksu.latentChins.getLsbD 3 = true ∧ s.ksu.chins.state.getLsbD 3 = !(0 : BitVec 4).getLsbD 3 :=
  ⟨rfl, rfl, by decide +kernel, rfl, nofun, fun _ _ => rfl,
    by decide +kernel, by decide +kernel⟩

/-- Both groups settling, at rest or with a tab on; the first entry with a pattern and none with it. -/
theorem witness_TabGroupsDepartAndSettle :
    let s : State := { playing with
      ksu := { playing.ksu with group := { playing.ksu.group with state := .settling 0 } }
      blr := { playing.blr with group := { playing.blr.group with state := .settling 0 } } }
    let on : State := { s with
      ksu := { s.ksu with tabs := { s.ksu.tabs with state := 1 } }, blr := { s.blr with tabImage := 1 } }
    s.heldInReset = false ∧ s.hushed ∧ s.ksu.group.state = .settling 0 ∧ s.blr.group.state = .settling 0 ∧
      s.ksu.tabs.state &&& s.ksu.group.mask = s.ksu.group.reference &&& s.ksu.group.mask ∧
      s.blr.tabImage &&& s.blr.group.mask = s.blr.group.reference &&& s.blr.group.mask ∧
      on.ksu.tabs.state &&& on.ksu.group.mask ≠ on.ksu.group.reference &&& on.ksu.group.mask ∧
      on.blr.tabImage &&& on.blr.group.mask ≠ on.blr.group.reference &&& on.blr.group.mask ∧
      (∀ n : Fin 32, on.rsa.table[n].treble.pattern ≠ some 1) ∧
      let found : State := { on with rsa := { on.rsa with
        table := on.rsa.table.set 31 { treble := { Half.default 12 with pattern := some 1 }
                                       bass := { Half.default 5 with pattern := some 1 } } } }
      found.rsa.table[(31 : Fin 32)].treble.pattern = some 1 ∧ found.rsa.table[(31 : Fin 32)].bass.pattern = some 1 ∧
        ∀ m : Fin 32, m < 31 → found.rsa.table[m].treble.pattern ≠ some 1 :=
  ⟨rfl, fun _ _ => rfl, rfl, rfl, by decide +kernel⟩

/-- The first tab and the last, of a group that is ARMED and of one that is SETTLING, in PLAYING and in RESTING. -/
theorem witness_TabGroupsDepartAndSettle_changes :
    (dozing.heldInReset = false ∧ dozing.act.activity ≠ .setup ∧ dozing.acceptsTabs 0 1 (BitVec.twoPow 12 0) 0 ∧
      dozing.acceptsTabs 0 0x800 (BitVec.twoPow 12 11) 0 ∧ dozing.ksu.group.state = .armed ∧
      (0 ^^^ dozing.ksu.group.reference) &&& dozing.ksu.group.mask = 0 ∧
      (BitVec.twoPow 12 11 ^^^ dozing.ksu.group.reference) &&& dozing.ksu.group.mask ≠ 0) ∧
    ∀ mask, let s : State := { playing with ksu := { playing.ksu with
      group := { mask, reference := 0, state := .settling 7 } } }
      s.heldInReset = false ∧ s.act.activity ≠ .setup ∧ s.ksu.group.state = .settling 7 ∧ s.ksu.group.mask = mask :=
  ⟨⟨rfl, nofun, by decide +kernel,
    by decide +kernel, rfl, by decide +kernel⟩, fun _ => ⟨rfl, nofun, rfl, rfl⟩⟩

theorem witness_BassLineEventsMoveReceiverAndAssembler :
    let s : State := { playing with blr := { playing.blr with receiver := .idle } }
    let with_ := fun n : Nat => ({ s with blr := { s.blr with
      assembler := .collecting (0xB5 :: List.replicate n 0) } } : State)
    s.heldInReset = false ∧ s.hushed ∧ -2 ≤ s.blr.trim ∧ s.blr.trim ≤ 2 ∧ s.blr.receiver ≠ .awaitingIdle ∧
      s.blr.assembler = .seeking ∧ (with_ 17).blr.assembler = .collecting (0xB5 :: List.replicate 17 0) ∧
      (0xB5 :: List.replicate 17 (0 : Byte)).length + 1 < 20 ∧ (0xB5 :: List.replicate 18 (0 : Byte)).length = 19 ∧
      (with_ 18).blr.complete = none ∧
      (((0xB5 :: List.replicate 18 (0 : Byte)) ++ [0x4A]).map BitVec.toNat).sum % 256 = 0xFF :=
  ⟨rfl, fun _ _ => rfl, by decide, by decide, by decide, rfl, rfl, by decide, by decide, rfl, by decide +kernel⟩

theorem witness_BassLineEventsMoveReceiverAndAssembler_receiver :
    let s := fun (r : Receiver) => ({ playing with blr := { playing.blr with
      receiver := r, assembler := .collecting [0xB5], gapRunning := true } } : State)
    ∀ r, (s r).heldInReset = false ∧ (s r).blr.receiver = r ∧ (s r).blr.assembler = .collecting [0xB5] ∧
      (s r).blr.gapRunning = true :=
  fun _ => ⟨rfl, rfl, rfl, rfl⟩

theorem witness_FrameInSetupIsAdopted :
    State.reset.heldInReset = false ∧ State.reset.act.activity = .setup ∧ State.reset.blr.complete = none ∧
      goodFrame (frameOf 0 0 0x4A) = true := by decide +kernel

/-- R22: a frame accepted where bytes were collected returns the assembler to SEEKING, and the gap after it counts nothing;
one that waited leaves the bytes collected since. -/
theorem test_accepted_frame_ends_collecting :
    (let s : State := { playing with blr := { playing.blr with assembler := .collecting [0xB5], gapRunning := true } }
     let t := run (.acceptedFrame (frameOf 0 0 0x4A)) s
     t.blr.assembler = .seeking ∧ t.blr.gapRunning = false ∧ (run .gapExpiry t).blr.errors = 0) ∧
    (run (.acceptedFrame 0) framesMeet).blr.assembler = framesMeet.blr.assembler := by decide +kernel

/-- A frame that presses B0 and one that releases it, latent and not, its hold there and not, in PLAYING and
RESTING. -/
theorem witness_AcceptedFrameHandsItsChangesOn :
    (playing.heldInReset = false ∧ playing.act.activity = .playing ∧ resting.heldInReset = false ∧
      resting.act.activity = .resting ∧ playing.blr.complete = none ∧ resting.blr.complete = none) ∧
    (goodFrame (frameOf 0 0 0x49 + 256) = true ∧ ((frameOf 0 0 0x49 + 256).extractLsb' 8 120).getLsbD 0 = true ∧
      playing.blr.image.getLsbD 0 = false ∧ playing.hold? (.bass 0) = none ∧
      playing.htm.holds.length + ((List.finRange 120).filter fun k =>
        ((frameOf 0 0 0x49 + 256).extractLsb' 8 120).getLsbD k.val && !playing.blr.image.getLsbD k.val).length ≤ 64) ∧
    goodFrame (frameOf 0 0 0x4A) = true ∧ ((frameOf 0 0 0x4A).extractLsb' 8 120).getLsbD 0 = false ∧
    ∀ latent, let s : State := { playing with blr := { playing.blr with image := 1, latent := latent } }
      s.heldInReset = false ∧ s.act.activity ≠ .setup ∧ s.blr.complete = none ∧ s.blr.image.getLsbD 0 = true ∧
        s.blr.latent = latent :=
  ⟨⟨rfl, rfl, rfl, rfl, rfl, rfl⟩, by decide +kernel, by decide +kernel, by decide +kernel, fun _ => ⟨rfl, nofun,
    rfl, (by decide : (1 : BitVec 120).getLsbD 0 = true), rfl⟩⟩

/-- A bass frame of the buttons of an image and no tabs. -/
def pressing (image check : Nat) : BitVec 160 := BitVec.ofNat 160 (0xB5 + image * 2 ^ 8 + check * 2 ^ 152)

/-- Two bass buttons held, of the chords 60, 52, 55 and 57, 60, 52: the records of 52 and 60 have both, that of 55 the
first alone. Voices 0 and 1 sound for 52 and 55; 57 waits for E3. -/
def chords (bus : BusState) (on : Bool) : State :=
  let first : Button := .bass 50
  let other : Button := .bass 69
  let key := fun p : Nat => ({ side := .bass, pitch := p } : Key)
  let record := fun (p : Nat) (holders : List Button) (status : SlotStatus) =>
    ({ key := key p, holders, stamp := 3, generation := 0
       slots := [{ theSlot with
         layer := { Layer.default with engineMask := 8 }, soundingPitch := some p, status := status }] } : Record)
  let voice := fun p => { theVoice with owner := some { key := key p, slot := 0 }, side := .bass }
  { onBus bus running with
    blr := { running.blr with image := 2 ^ 50 + 2 ^ 69 }
    htm := { running.htm with
      bassSustain := on
      holds := [{ button := first, pitches := [60, 52, 55], pressTime := 7 },
        { button := other, pitches := [57, 60, 52], pressTime := 9 }] }
    sdt := { serial := 7, records := [record 52 [first, other] (.voiced 0), record 55 [first] (.voiced 1),
      record 57 [other] .waiting, record 60 [first, other] .empty] }
    val := { running.val with
      waiting := [{ key := key 57, slot := 0 }]
      voices := (running.val.voices.set 0 (voice 52)).set 1 (voice 55) } }

/-- In RUNNING and QUIET, with sustain OFF and ON, frames that release the first button of `chords` and both of
them, and frames that press a third one of the chord 60, 63, 55, the first held on or released: the record of 55
loses its only holder, those of 52 and 60 keep one, 63 has none. -/
theorem witness_AcceptedFrameHandsItsChangesOn_records (on : Bool) :
    (∀ bus, let s := chords bus on
      s.heldInReset = false ∧ s.act.activity ≠ .setup ∧ s.blr.complete = none ∧ s.htm.bassSustain = on ∧
        s.vbc.bus = bus ∧ s.sdt.records = (chords .running on).sdt.records ∧ s.htm = (chords .running on).htm ∧
        s.blr = (chords .running on).blr) ∧
    ((chords .running on).TableLaws ∧ (chords .running on).HoldLaws) ∧
    ((chords .quiet on).TableLaws ∧ (chords .quiet on).HoldLaws) ∧
    (let s := chords .running on
      let pressed := fun (f : BitVec 160) (k : Fin 120) =>
        (f.extractLsb' 8 120 : BitVec 120).getLsbD k.val && !s.blr.image.getLsbD k.val
      (goodFrame (pressing (2 ^ 69) 0x2A) = true ∧ (List.finRange 120).filter (pressed (pressing (2 ^ 69) 0x2A)) = []) ∧
      (goodFrame (pressing 0 0x4A) = true ∧ (List.finRange 120).filter (pressed (pressing 0 0x4A)) = []) ∧
      (goodFrame (pressing (2 ^ 50 + 2 ^ 51 + 2 ^ 69) 0x1E) = true ∧
        (List.finRange 120).filter (pressed (pressing (2 ^ 50 + 2 ^ 51 + 2 ^ 69) 0x1E)) = [51]) ∧
      (goodFrame (pressing (2 ^ 51 + 2 ^ 69) 0x22) = true ∧
        (List.finRange 120).filter (pressed (pressing (2 ^ 51 + 2 ^ 69) 0x22)) = [51]) ∧
      s.hold? (.bass 51) = none ∧ s.htm.holds.length + 1 ≤ 64 ∧ s.sdt.records.length + 3 ≤ 96 ∧
      (∀ x ∈ s.sdt.records, x.holders.length + 1 ≤ 8) ∧
      bassPitches s.htm.bassBase s.htm.chordBase 51 = [60, 63, 55] ∧
      s.blr.latent.getLsbD 50 = false ∧ (s.record? { side := .bass, pitch := 55 }).map (·.holders) = some [.bass 50] ∧
      (s.slot? { key := { side := .bass, pitch := 55 }, slot := 0 }).map (·.status) = some (.voiced 1) ∧
      s.record? { side := .bass, pitch := 63 } = none) := by
  refine ⟨fun _ => ⟨rfl, nofun, rfl, rfl, rfl, rfl, rfl, rfl⟩, ⟨table_of _ ?_, hold_of _ ?_⟩,
    ⟨table_of _ ?_, hold_of _ ?_⟩, ?_⟩ <;> cases on <;> decide +kernel

theorem witness_LossTimerExpiryEndsOrSearches :
    let s := fun (l : Link) (x : LineSelect) => ({ playing with blr := { playing.blr with
      link := l, lineSelect := x, image := 1 } } : State)
    (∀ l x, (s l x).heldInReset = false ∧ (s l x).hushed ∧ (s l x).blr.link = l ∧ (s l x).blr.lineSelect = x) ∧
      (s .up .auto).act.activity ≠ .setup ∧ (s .up .auto).blr.image.getLsbD 0 = true ∧
      (s .up .auto).blr.latent.getLsbD 0 = false ∧ Link.down ≠ .up ∧ Link.lost ≠ .up ∧
      let u : State := { lively with
        blr := { lively.blr with link := .up }, bwu := { lively.bwu with calibration := .collecting 0 0 none } }
      u.heldInReset = false ∧ u.blr.link = .up ∧ u.blr.image = 0 ∧ u.bwu.calibration ≠ .idle ∧
        u.ownerSlot 0 = some theSlot :=
  ⟨fun _ _ => ⟨rfl, fun _ _ => rfl, rfl, rfl⟩, by decide +kernel⟩

theorem witness_BellowsLevelStaysOnItsScale :
    (-2048 : Int) ≤ -2048 ∧ (-2048 : Int) - 255 < -2047 ∧ (2047 : Int) < 2047 - (-256) ∧ (255 : Nat) ≤ 255 ∧
      (255 : Nat) < 256 ∧ (2046 : Nat) < 2047 := by decide

theorem witness_SmoothingReachesTheTarget :
    (0 : Nat) ≤ 16368 ∧ (16368 : Nat) ≤ 16368 ∧ (7 : Nat) ≤ 7 ∧ 2 ^ 7 ≤ ((16368 : Int) - 0).natAbs ∧
      ((127 : Int) - 0).natAbs < 2 ^ 7 ∧ ((0 : Int) - 127).natAbs < 2 ^ 7 := by decide

/-- A voice of an ACCENT layer and one that is not, on a link that is UP in PUSH, with `n` faulty samples so far. -/
def bowed (n : Nat) : State :=
  let other : Key := { side := .treble, pitch := 64 }
  { lively with
    blr := { lively.blr with link := .up }
    bwu := { lively.bwu with direction := .push, faultRun := n, calibration := .idle }
    sdt := { lively.sdt with records :=
      [{ theRecord with slots := [{ theSlot with layer := { Layer.default with accent := true } }] },
       { theRecord with key := other, slots := [{ theSlot with soundingPitch := some 64, status := .voiced 1 }] }] }
    val := { lively.val with
      voices := lively.val.voices.set 1 { theVoice with owner := some { key := other, slot := 0 } } } }

/-- A sample that crosses with a voice to accent and one not to; a faulty one that declares the fault, and one that
does not. -/
theorem witness_SamplesStepTheBellows_levels :
    (∀ n, (bowed n).heldInReset = false ∧ (bowed n).blr.complete = none ∧ (bowed n).bwu.direction = .push ∧
      (bowed n).bwu.faultRun = n ∧ (bowed n).bwu.faultDeclared = false ∧ (bowed n).blr.lossTime = 40) ∧
    (let still := fun f : BitVec 160 => goodFrame f = true ∧
      (bowed 0).blr.image = f.extractLsb' 8 120 ∧ (bowed 0).blr.tabImage = f.extractLsb' 128 5
     still (frameOf 0xF00 0 0x3B) ∧ still (frameOf 0 0x80 0xCA)) ∧
    (frameOf 0xF00 0 0x3B).getLsbD 151 = false ∧ (frameOf 0 0x80 0xCA).getLsbD 151 = true ∧
    offsetSample (((frameOf 0xF00 0 0x3B).extractLsb' 136 12 : BitVec 12).toInt) (bowed 0).bwu.offset = -256 ∧
    (bowed 0).bwu.deadBand < 256 ∧ ((bowed 0).ownerSlot 0).map (·.layer.accent) = some true ∧
    ((bowed 0).voice 0).pending = .none ∧ ((bowed 0).ownerSlot 1).map (·.layer.accent) = some false ∧
    40 ≤ min 255 (39 + 1) ∧ ¬ 40 ≤ min 255 (38 + 1) := by
  refine ⟨fun n => ⟨rfl, rfl, rfl, rfl, rfl, rfl⟩, ?_⟩
  decide +kernel

/-- A good sample inside the band and one above it, and a faulty one. -/
theorem witness_SamplesStepTheBellows :
    let s : State := { playing with blr := { playing.blr with link := .up } }
    s.heldInReset = false ∧ s.blr.complete = none ∧ s.blr.link = .up ∧ s.bwu.calibration = .idle ∧
      (goodFrame (frameOf 0 0 0x4A) = true ∧ s.blr.image = (frameOf 0 0 0x4A).extractLsb' 8 120 ∧
        s.blr.tabImage = (frameOf 0 0 0x4A).extractLsb' 128 5 ∧ (frameOf 0 0 0x4A).getLsbD 151 = false ∧
        ((frameOf 0 0 0x4A).extractLsb' 136 12 : BitVec 12).toInt = 0) ∧
      (goodFrame (frameOf 0x64 0 0xE6) = true ∧ s.blr.image = (frameOf 0x64 0 0xE6).extractLsb' 8 120 ∧
        s.blr.tabImage = (frameOf 0x64 0 0xE6).extractLsb' 128 5 ∧ (frameOf 0x64 0 0xE6).getLsbD 151 = false ∧
        ((frameOf 0x64 0 0xE6).extractLsb' 136 12 : BitVec 12).toInt = 100) ∧
      (goodFrame (frameOf 0 0x80 0xCA) = true ∧ s.blr.image = (frameOf 0 0x80 0xCA).extractLsb' 8 120 ∧
        s.blr.tabImage = (frameOf 0 0x80 0xCA).extractLsb' 128 5 ∧ (frameOf 0 0x80 0xCA).getLsbD 151 = true) ∧
      s.bwu.deadBand < (offsetSample 100 s.bwu.offset).natAbs ∧
        ¬ s.bwu.deadBand < (offsetSample 0 s.bwu.offset).natAbs :=
  ⟨rfl, rfl, rfl, rfl, ⟨by decide +kernel, rfl, rfl, by decide +kernel⟩,
    ⟨by decide +kernel, rfl, rfl, by decide +kernel⟩,
    ⟨by decide +kernel, rfl, rfl, by decide +kernel⟩, by decide +kernel⟩

/-- A collection at its 15th and at its 16th sample, and at its first; a link that is UP and one that is not. -/
theorem witness_CalibrationCollectsSixteenSamples :
    let s := fun (n : Nat) (bounds : Option (Int × Int)) => ({ playing with
      blr := { playing.blr with link := .up }
      bwu := { playing.bwu with calibration := .collecting n 0 bounds } } : State)
    (∀ n b, (s n b).heldInReset = false ∧ (s n b).cpt.busy = false ∧ (s n b).blr.link = .up ∧
      (s n b).blr.complete = none ∧ (s n b).bwu.calibration = .collecting n 0 b ∧
      (s n b).blr.image = (frameOf 0 0 0x4A).extractLsb' 8 120 ∧
      (s n b).blr.tabImage = (frameOf 0 0 0x4A).extractLsb' 128 5) ∧
      goodFrame (frameOf 0 0 0x4A) = true ∧ (frameOf 0 0 0x4A).getLsbD 151 = false ∧ 14 + 1 < 16 ∧ ¬ 15 + 1 < 16 ∧
      playing.cpt.busy = false ∧ playing.blr.link ≠ .up :=
  ⟨fun _ _ => ⟨rfl, rfl, rfl, rfl, rfl, rfl, rfl⟩, by decide +kernel⟩

theorem witness_BassButtonsFoldIntoTheirBase : (116 : Nat) ≤ 116 ∧ (0 : Nat) ≤ 116 := by decide

/-- `lively` with T36 up and T35 mapped to its pitch, its record with the holders given. -/
def revisited (holders : List Button) : State :=
  { lively with
    ksu := { lively.ksu with buttons := { lively.ksu.buttons with state := 0 } }
    htm := { lively.htm with map := lively.htm.map.set 35 (some 36), holds := [] }
    sdt := { lively.sdt with records := [{ theRecord with holders := holders }] } }

theorem revisited_presses (holders : List Button) :
    (revisited holders).pressesAlone (BitVec.twoPow 96 35) 0 0 35 60 where
  running := ⟨rfl, nofun⟩
  alone := ⟨show running.ksu.buttons.accepted 1 (BitVec.twoPow 96 35) = _ by decide +kernel,
    show running.ksu.tabs.accepted 1 0 = 0 by decide +kernel, show running.ksu.chins.accepted 1 0 = 0 by decide +kernel⟩
  pressed := ⟨show (0 : BitVec 96).getLsbD 35 = false by decide, show (0 : BitVec 96).getLsbD 35 = false by decide⟩
  room := ⟨rfl, show 0 < 64 by decide⟩
  plays := ⟨36, show (lively.htm.map.set 35 (some 36))[35] = some 36 by decide +kernel,
    show (60 : Int) = 24 + 36 + 12 * 0 ∧ 60 ≤ 127 by decide⟩

theorem playing_presses (s : State) (i : Fin 96) (h : s.heldInReset = false ∧ s.act.activity ≠ .setup)
    (hk : s.ksu = playing.ksu) (hh : s.htm = playing.htm) :
    s.pressesAlone (BitVec.twoPow 96 i.val) 0 0 i (24 + i.val) where
  running := h
  alone := by
    unfold State.acceptsButtons
    rw [hk]
    exact ⟨by revert i; decide +kernel, by decide +kernel⟩
  pressed := by rw [hk]; exact ⟨by revert i; decide +kernel, by revert i; decide +kernel⟩
  room := by unfold State.hold?; rw [hh]; exact ⟨rfl, by decide⟩
  plays := by
    have key : ∀ i : Fin 96, playing.htm.map[i] = some i.val := by decide +kernel
    rw [hh, hk]
    refine ⟨i.val, key i, ?_, by omega⟩
    show ((24 + i.val : Nat) : Int) = 24 + (i.val : Int) + 12 * 0
    omega

/-- `playing` with a map, a base, an octave and holds of the treble side. -/
def mapped (i : Fin 96) (x : Option Nat) (base : Nat) (octave : Int) (holds : List Hold) : State :=
  { playing with
    ksu := { playing.ksu with octave := octave }
    htm := { playing.htm with map := playing.htm.map.set i x, trebleBase := base, holds := holds } }

/-- An UNUSED button, a hold that is there, a full Hold Table, a pitch below 0 and one above 127. -/
theorem witness_TreblePressMakesAHoldAndARecord_refused :
    (∀ i x base octave holds, let s := mapped i x base octave holds
      s.heldInReset = false ∧ s.act.activity ≠ .setup ∧ s.hushed ∧
        s.acceptsButtons (BitVec.twoPow 96 i.val) (BitVec.twoPow 96 i.val) 0 0 ∧
        s.ksu.buttons.state.getLsbD i.val = false ∧ s.ksu.latentButtons.getLsbD i.val = false) ∧
    (mapped 95 none 24 0 []).htm.map[(95 : Fin 96)] = none ∧
    (mapped 0 (some 0) 24 0 [{ button := .treble 0, pitches := [], pressTime := 0 }]).hold? (.treble 0) ≠ none ∧
    (let s := mapped 0 (some 0) 24 0 (List.replicate 64 { button := .treble 1, pitches := [], pressTime := 0 })
     s.htm.map[(0 : Fin 96)] ≠ none ∧ s.hold? (.treble 0) = none ∧ 64 ≤ s.htm.holds.length) ∧
    (let s := mapped 0 (some 0) 23 (-2) []
     s.htm.map[(0 : Fin 96)] = some 0 ∧ s.hold? (.treble 0) = none ∧ s.htm.holds.length < 64 ∧
      (s.htm.trebleBase : Int) + (0 : Nat) + 12 * s.ksu.octave < 0) ∧
    let s := mapped 95 (some 80) 24 2 []
    s.htm.map[(95 : Fin 96)] = some 80 ∧ s.hold? (.treble 95) = none ∧ s.htm.holds.length < 64 ∧
      127 < (s.htm.trebleBase : Int) + (80 : Nat) + 12 * s.ksu.octave := by
  refine ⟨fun i x base octave holds => ⟨rfl, nofun, fun _ _ => rfl, ?_, ?_⟩, ?_⟩
  · show playing.acceptsButtons (BitVec.twoPow 96 i.val) (BitVec.twoPow 96 i.val) 0 0
    revert i; decide +kernel
  · show (0 : BitVec 96).getLsbD i.val = false ∧ (0 : BitVec 96).getLsbD i.val = false
    simp
  · decide +kernel

/-- A pitch with no record, with room for one and with none; a record of no holders, of seven and of eight, the first
with the laws of the tables and voice 0 VOICED. -/
theorem witness_TreblePressMakesAHoldAndARecord :
    (playing.pressesAlone (BitVec.twoPow 96 0) 0 0 0 24 ∧ playing.pressesAlone (BitVec.twoPow 96 95) 0 0 95 119 ∧
      (∀ k, playing.record? k = none) ∧ playing.sdt.records.length < 96 ∧ playing.vbc.bus ≠ .running ∧
      ∀ l ∈ playing.rsa.treble.layers, 0 ≤ ((119 : Nat) : Int) + l.transpose ∧
        ((119 : Nat) : Int) + l.transpose ≤ 127) ∧
    (let s : State := { playing with rsa := { playing.rsa with treble :=
        { layers := [{ Layer.default with transpose := 24 }, Layer.default], entry := 0 } } }
     s.pressesAlone (BitVec.twoPow 96 95) 0 0 95 119 ∧ s.record? { side := .treble, pitch := 119 } = none ∧
      s.vbc.bus ≠ .running ∧ ∃ l ∈ s.rsa.treble.layers, 127 < ((119 : Nat) : Int) + l.transpose) ∧
    (let s : State := { playing with sdt := { playing.sdt with records := List.replicate 96 theRecord } }
     s.pressesAlone (BitVec.twoPow 96 0) 0 0 0 24 ∧ s.record? { side := .treble, pitch := 24 } = none ∧
      96 ≤ s.sdt.records.length) ∧
    (∀ holders, (revisited holders).pressesAlone (BitVec.twoPow 96 35) 0 0 35 60 ∧
      (revisited holders).record? { side := .treble, pitch := 60 } = some { theRecord with holders := holders }) ∧
    (revisited []).TableLaws ∧ (∃ y ∈ theRecord.slots, y.status = .voiced 0) ∧
      ((revisited []).voice 0).pending = .none ∧
    Button.treble 35 ∉ [Button.bass 0, .bass 1, .bass 2, .bass 3, .bass 4, .bass 5, .bass 6, .bass 7] :=
  ⟨⟨playing_presses playing 0 ⟨rfl, nofun⟩ rfl rfl, playing_presses playing 95 ⟨rfl, nofun⟩ rfl rfl, fun _ => rfl,
      by decide +kernel⟩,
    ⟨playing_presses _ 95 ⟨rfl, nofun⟩ rfl rfl, rfl, nofun, { Layer.default with transpose := 24 }, by decide +kernel⟩,
    ⟨playing_presses _ 0 ⟨rfl, nofun⟩ rfl rfl, by decide +kernel⟩,
    fun holders => ⟨revisited_presses holders, rfl⟩,
    table_of _ (by decide +kernel),
    by decide +kernel⟩

/-- With sustain OFF and ON; the button the record's only holder, or one of two. -/
theorem witness_ReleaseOfAHolderKeepsSustainsOrRetires (on : Bool) :
    ∀ holders ∈ [[Button.treble 36], [.treble 40, .treble 36]],
      let x : Record := { theRecord with holders := holders }
      let s : State := { lively with
        htm := { lively.htm with trebleSustain := on }, sdt := { records := [x], serial := 4 } }
      s.heldInReset = false ∧ s.act.activity ≠ .setup ∧ s.acceptsButtons 0 (BitVec.twoPow 96 36) 0 0 ∧
        s.ksu.buttons.state.getLsbD 36 = true ∧ s.ksu.latentButtons.getLsbD 36 = false ∧
        s.hold? (.treble 36) = some { button := .treble 36, pitches := [60], pressTime := 7 } ∧
        s.record? { side := .treble, pitch := 60 } = some x ∧ .treble 36 ∈ x.holders ∧ s.htm.trebleSustain = on := by
  cases on <;> decide +kernel

/-- The laws that the Send List's clause asks for; and T95 latent, released. -/
theorem witness_ReleaseOfAHolderKeepsSustainsOrRetires_latent :
    (lively.htm.trebleSustain = false ∧ lively.TableLaws ∧ lively.SendListLaw ∧
      ∀ y ∈ theRecord.slots, ∀ v, y.status = .voiced v → (lively.voice v).pending ≠ .startRelease) ∧
    let s : State := { playing with ksu := { playing.ksu with
      latentButtons := BitVec.twoPow 96 95, buttons := { playing.ksu.buttons with state := BitVec.twoPow 96 95 } } }
    s.heldInReset = false ∧ s.act.activity ≠ .setup ∧ s.hushed ∧ s.acceptsButtons 0 (BitVec.twoPow 96 95) 0 0 ∧
      s.ksu.buttons.state.getLsbD 95 = true ∧ s.ksu.latentButtons.getLsbD 95 = true :=
  ⟨⟨rfl, lively_table, lively_sends, by decide +kernel⟩, rfl, nofun, fun _ _ => rfl,
    by decide +kernel, by decide +kernel⟩

/-- A side and a pitch beyond their ranges and at their limits; a key with a record and one without; a key before the
record and one after it. -/
theorem witness_FindAndScanAnswerRecords :
    lively.ready ∧ lively.TableLaws ∧ 1 < (2 : Byte).toNat ∧ 127 < (128 : Byte).toNat ∧ (1 : Byte).toNat ≤ 1 ∧
      (127 : Byte).toNat ≤ 127 ∧ lively.record? { side := .treble, pitch := 60 } = some theRecord ∧
      lively.record? { side := .bass, pitch := 127 } = none ∧ theRecord ∈ lively.sdt.records ∧
      (∀ y ∈ lively.sdt.records, theRecord.key.place ≤ y.key.place) ∧ theRecord.slots[0]? = some theSlot ∧
      theRecord.holders[0]? = some (.treble 36) :=
  ⟨lively_ready, lively_table, by decide, by decide, by decide, by decide, by decide +kernel, by decide +kernel,
    by decide +kernel, by decide +kernel, rfl, rfl⟩

theorem witness_AdjustAmendsOneSlot :
    lively.ready ∧ lively.TableLaws ∧ 1 < (2 : Byte).toNat ∧ 127 < (128 : Byte).toNat ∧
      lively.record? { side := .bass, pitch := 60 } = none ∧ lively.record? theKey ≠ none ∧
      lively.slot? { key := theKey, slot := 1 } = none ∧ lively.slot? { key := theKey, slot := 0 } = some theSlot ∧
      theSlot.status = .voiced 0 ∧ (lively.voice 0).owner = some { key := theKey, slot := 0 } ∧
      (lively.voice 0).state = .sounding :=
  ⟨lively_ready, lively_table, by decide, by decide, by decide +kernel, by decide +kernel, by decide +kernel,
    by decide +kernel, rfl, by decide +kernel⟩

theorem witness_RetireCutsTheRecord :
    lively.ready ∧ 1 < (2 : Byte).toNat ∧ 127 < (128 : Byte).toNat ∧ (0 : Byte).toNat ≤ 1 ∧ (60 : Byte).toNat ≤ 127 ∧
      lively.record? theKey = some theRecord ∧ lively.record? { side := .treble, pitch := 127 } = none ∧
      ∃ y ∈ theRecord.slots, y.status = .voiced 0 :=
  ⟨lively_ready, by decide +kernel⟩

/-- `lively` with a tail on the treble side, a command pending for the voice that sounds, and a slot that waits for
E3. -/
def fading : State :=
  let waits : Slot := { theSlot with layer := { Layer.default with engineMask := 8 }, status := .waiting }
  let starts : Voice := { theVoice with pending := .start }
  let tail : Voice := { Voice.reset with state := .releasing, tail := .moment 900 }
  { lively with
    sdt := { lively.sdt with records := [{ theRecord with slots := [theSlot, waits] }] }
    vbc := { lively.vbc with sendList := [{ voice := 0, start := some theSlot.contents }] }
    val := { lively.val with
      waiting := [{ key := theKey, slot := 1 }], voices := (lively.val.voices.set 0 starts).set 7 tail } }

theorem fading_voices : fading.VoiceLaws where
  lawful := fun v => by
    have e : ∀ v, fading.voice v = if v = 0 then { theVoice with pending := .start }
        else if v = 7 then { Voice.reset with state := .releasing, tail := .moment 900 } else Voice.reset := by
      decide +kernel
    rw [e]
    split
    · simp [Voice.lawful, theVoice, Voice.reset]
    · split <;> simp [Voice.lawful, Voice.reset]
  inUse := by decide +kernel
  joined := by decide +kernel

/-- A side beyond the range and each side in it; a voice that sounds with nothing pending and with a START, a tail,
a slot that waits and a hold of a pitch that is silenced. -/
theorem witness_SilenceEmptiesTheSidesNamed :
    (lively.ready ∧ fading.ready ∧ 2 < (3 : Byte).toNat ∧ (2 : Byte).toNat ≤ 2) ∧
    (lively.TableLaws ∧ lively.VoiceLaws ∧ fading.TableLaws ∧ fading.VoiceLaws) ∧
    (theRecord ∈ lively.sdt.records ∧ 0 ∈ theRecord.voices ∧ (lively.voice 0).pending = .none) ∧
    (fading.voice 0).pending = .start ∧ (fading.voice 7).state = .releasing ∧ (fading.voice 7).side = .treble ∧
    { key := theKey, slot := 1 } ∈ fading.val.waiting ∧ fading.htm.holds.map (·.pitches) = [[60]] :=
  ⟨⟨lively_ready, ⟨rfl, rfl⟩, by decide, by decide⟩,
      ⟨lively_table, lively_voices, table_of _ (by decide +kernel), fading_voices⟩,
    by decide +kernel⟩

/-- `lively` with T36 up, E1 PRESENT with `n` joined voices and the one voice of E0 its own, the record's layer LATE
or not and the treble copy one layer of the priority and mask given. -/
def full (late : Bool) (n priority : Nat) (mask : BitVec 4) : State :=
  { lively with
    ksu := playing.ksu
    htm := playing.htm
    vbc := { lively.vbc with
      engines := #v[{ present := true, capacity := 8, absenceRun := 0 },
        { present := true, capacity := 8, absenceRun := 0 },
        Engine.absent, Engine.absent] }
    sdt := { lively.sdt with records := [{ theRecord with
      slots := [{ theSlot with layer := { Layer.default with late := late } }] }] }
    val := { lively.val with joined := #v[1, n, 0, 0] }
    rsa := { lively.rsa with
      treble := { lively.rsa.treble with
        layers := [{ Layer.default with priority := priority, engineMask := mask }] } } }

theorem full_table (late : Bool) (n priority : Nat) (mask : BitVec 4) : (full late n priority mask).TableLaws :=
  one_note_table _ _ _ rfl rfl
    (show [Button.treble 36].Nodup ∧ [Button.treble 36].length ≤ 8 ∧ ∀ b ∈ [Button.treble 36],
      b.side = .treble by decide)
    rfl ⟨rfl, rfl, show soundingPitch 60 0 = some 60 by decide⟩
    (show ∀ v, (lively.voice v).owner = if v = 0 then some { key := theKey, slot := 0 } else none by decide +kernel)
    (show (lively.voice 0).side = .treble by decide +kernel) rfl

/-- A press in RUNNING: a free voice, none, a stolen voice whose slot is not LATE, is LATE, and is served elsewhere.
-/
theorem witness_AllocationTakesVoicesInOrder :
    (∀ late n priority mask, let s := full late n priority mask
      s.pressesAlone (BitVec.twoPow 96 0) 0 0 0 24 ∧ s.TableLaws ∧ s.vbc.bus = .running ∧
        s.record? { side := .treble, pitch := 24 } = none ∧ s.sdt.records.length < 96 ∧
        s.rsa.treble.layers = [{ Layer.default with priority := priority, engineMask := mask }]) ∧
    0 ≤ ((24 : Nat) : Int) + Layer.default.transpose ∧ ((24 : Nat) : Int) + Layer.default.transpose ≤ 127 ∧
    1 &&& (full true 0 7 1).presentMask ≠ 0 ∧
    (full true 8 4 15).chooseVoice 15 4 = some 32 ∧ (full true 8 4 15).ownerSlot 32 = none ∧
    (full true 0 4 15).chooseVoice 15 4 = none ∧
    (∀ late, (full late 0 5 15).chooseVoice 15 5 = some 0 ∧
      ((full late 0 5 15).ownerSlot 0).map (·.layer.late) = some late) ∧
    ((full true 0 5 15).voice 0).owner = some { key := theKey, slot := 0 } ∧
    (full true 0 5 15).chooseFree 15 = none ∧
    (full true 8 5 1).chooseVoice 1 5 = some 0 ∧ (full true 8 5 1).chooseFree 15 = some 32 :=
  ⟨fun late n priority mask => ⟨playing_presses _ 0 ⟨rfl, nofun⟩ rfl rfl, full_table late n priority mask, rfl, rfl,
      show 1 < 96 by decide, rfl⟩,
    by decide, by decide, by decide +kernel, by decide +kernel, by decide +kernel, by decide +kernel,
    fun late => by cases late <;> decide +kernel, by decide +kernel⟩

theorem witness_GrantGivesTheVoiceToTheSlot : lively.slot? { key := theKey, slot := 0 } = some theSlot := by
  decide +kernel

theorem witness_TailExpiryCutsTheOverrunTail :
    let s := playing.setVoice 127 { Voice.reset with state := .releasing, tail := .moment 0 }
    s.heldInReset = false ∧ s.hushed ∧ (s.voice 127).state = .releasing ∧ (s.voice 127).tail = .moment 0 ∧
      (s.voice 127).pending = .none ∧ (s.voice 0).state ≠ .releasing :=
  ⟨rfl, fun _ _ => rfl, by decide +kernel⟩

/-- `lively` with voice 0 the only joined one, as given, and a slot that waits. -/
def queued (x : Voice) : State :=
  let key : Key := { side := .treble, pitch := 64 }
  { lively with
    sdt := { lively.sdt with records := [theRecord, { theRecord with
      key := key, holders := [], slots := [{ theSlot with soundingPitch := some 64, status := .waiting }] }] }
    val := { lively.val with
      joined := #v[1, 0, 0, 0], waiting := [{ key := key, slot := 0 }], voices := lively.val.voices.set 0 x } }

/-- A DONE with the voice's tag, and one with another; with a slot that waits for the voice, and with none. -/
theorem witness_DoneFreesTheVoiceOfItsTag :
    lively.heldInReset = false ∧ lively.BusLaws ∧ lively.vbc.bus = .running ∧ lively.vbc.answer = .awaiting ∧
      (∀ i : Fin 4, (lively.engine i).present = true → (upstream 1 2 0 0 2 0 0xFB).getLsbD i.val = true) ∧
      reportOf ((upstream 1 2 0 0 2 0 0xFB).extractLsb' 8 48) = some (.done 0 0 2) ∧
      reportOf ((upstream 1 2 0 0 1 0 0xFC).extractLsb' 8 48) = some (.done 0 0 1) ∧ lively.val.waiting = [] ∧
      (lively.voice (voiceOf 0 0)).tag = 2 ∧ (lively.voice (voiceOf 0 0)).state = .sounding ∧
        lively.firstWaiting 0 = none ∧ (queued theVoice).heldInReset = false ∧ (queued theVoice).BusLaws ∧
      (queued theVoice).vbc = lively.vbc ∧ (queued theVoice).voice 0 = theVoice ∧
      (queued theVoice).firstWaiting 0 = some { key := { side := .treble, pitch := 64 }, slot := 0 } :=
  ⟨rfl, lively_bus, rfl, rfl, by decide +kernel, by decide +kernel, by decide +kernel, rfl, rfl, rfl, rfl, rfl,
    ⟨lively_bus.present, lively_bus.engines, lively_bus.playing, lively_bus.wakeTimer, lively_bus.closeTimer,
      lively_bus.holdOff, lively_bus.clears, lively_bus.rests, by decide +kernel⟩, rfl, by decide +kernel⟩

theorem witness_VolumeAndTiltStepsAreAsStated :
    (127 : Nat) ≤ 127 ∧ (-8 : Int) ≤ -8 ∧ (7 : Int) ≤ 7 ∧ (60 : Nat) < 127 ∧ (0 : Nat) < 60 := by decide

theorem witness_LevelsFollowTheirSteps :
    (16368 : Nat) ≤ 16368 ∧ (∀ i : Fin 9, defaultCurve[i] ≤ 127) ∧ theSlot.soundingPitch = some 60 ∧
      theSlot.mute = false ∧ theSlot.override = none ∧
      volumeStep (curveValue defaultCurve 0) theSlot.layer.volume = 0 ∧
      volumeStep (curveValue defaultCurve 16368) theSlot.layer.volume ≠ 0 ∧ 0 / 16 % 128 = 0 := by decide +kernel

/-- Each bus state with a frame owed, the window answered and not, at a millisecond tick. -/
theorem witness_EachBusStateBuildsItsFrames (bus : BusState) (answer : AnswerWindow) :
    let s : State := { waking with
      frameTicks := 8, openTick := some { owing with bus := bus }
      vbc := { waking.vbc with bus := bus, answer := answer } }
    s.heldInReset = false ∧ s.hushed ∧ (∀ e, (s.engine e).present = true → (s.engine e).absenceRun < 7) ∧
      s.openTick = some { owing with bus := bus } ∧ owing.frame = true ∧ s.vbc.bus = bus ∧ s.vbc.answer = answer ∧
      s.frameTicks % 4 = 0 :=
  ⟨rfl, fun _ _ => rfl,
    show ∀ e, (waking.engine e).present = true → (waking.engine e).absenceRun < 7 by decide +kernel, rfl, rfl, rfl, rfl,
    show 8 % 4 = 0 by decide⟩

/-- One voice of E0 with a pending command, which the Send List alone holds. -/
def oneCommand (v : Fin 128) (x : Voice) (c : Option StartContents) : State :=
  (({ running with frameTicks := 8, openTick := some owing } : State).setVoice v x).setSendList
    [{ voice := v, start := c }]

/-- Each pending command; a RELEASE that is eligible and one that is not. -/
theorem witness_PlacementHasItsEffectsOnTheVoice :
    let c : StartContents := { timbre := 300, pitch := 60 }
    ∀ x ∈ [Voice.reset, { theVoice with pending := .start, dirty := false },
      { Voice.reset with state := .releasing, pending := .startRelease, tail := .length 20 },
      { Voice.reset with state := .releasing, pending := .release, tail := .length 20, eligibleFrom := some 8 },
      { Voice.reset with state := .releasing, pending := .release, tail := .length 20, eligibleFrom := some 9 },
      { Voice.reset with state := .cutting, pending := .cut },
      { theVoice with pending := .accent, dirty := false }],
    let s := oneCommand 31 x (some c)
    s.heldInReset = false ∧ s.vbc.bus = .running ∧ s.openTick = some owing ∧ owing.frame = true ∧
      owing.bus = .running ∧ s.vbc.answer ≠ .awaiting ∧ s.vbc.clearPending = 0 ∧ s.firstWaiting 31 = none ∧
        (s.engine (engineOf 31)).present = true ∧ s.vbc.sendList = [{ voice := 31, start := some c }] ∧
      (∀ w, (s.voice w).dirty = false) ∧ s.val.waiting = [] ∧ s.voice 31 = x := by
  decide +kernel

/-- A CUT of a voice that a slot waits for. -/
theorem witness_PlacementHasItsEffectsOnTheVoice_served :
    let s := (queued { Voice.reset with state := .cutting, pending := .cut }).setSendList
      [{ voice := 0, start := none }]
    let t : State := { s with vbc := { s.vbc with answer := .answered } }
    t.heldInReset = false ∧ t.vbc.bus = .running ∧ t.openTick = some owing ∧ t.vbc.answer ≠ .awaiting ∧
      t.vbc.clearPending = 0 ∧ (t.engine (engineOf 0)).present = true ∧
      t.vbc.sendList = [{ voice := 0, start := none }] ∧ (∀ w, (t.voice w).dirty = false) ∧ (t.voice 0).pending = .cut ∧
      t.firstWaiting 0 = some { key := { side := .treble, pitch := 64 }, slot := 0 } := by decide +kernel

/-- A CLEAR and three STARTs, of which two fit, between them a RELEASE that is not yet eligible. -/
def crowded : State :=
  let start : Voice := { theVoice with pending := .start, dirty := false }
  let early : Voice :=
    { Voice.reset with state := .releasing, pending := .release, tail := .length 20, eligibleFrom := some 9 }
  let c : Option StartContents := some { timbre := 300, pitch := 60 }
  { running with
    frameTicks := 8, openTick := some owing
    vbc := { running.vbc with
      clearPending := 1
      sendList := [{ voice := 5, start := c }, { voice := 1, start := none }, { voice := 3, start := c },
        { voice := 2, start := c }] }
    val := { running.val with voices :=
      (((running.val.voices.set 5 start).set 1 early).set 3 start).set 2 start } }

theorem crowded_sends : crowded.SendListLaw where
  once := by decide +kernel
  pending := by decide +kernel
  contents := by decide +kernel

theorem witness_FramePlacesClearsThenTheSendListInOrder :
    crowded.heldInReset = false ∧ crowded.vbc.bus = .running ∧ crowded.openTick = some owing ∧ owing.frame = true ∧
      owing.bus = .running ∧ crowded.vbc.answer ≠ .awaiting ∧ crowded.SendListLaw ∧ crowded.val.waiting = [] :=
  ⟨rfl, rfl, rfl, rfl, rfl, nofun, crowded_sends, rfl⟩

theorem witness_LevelsGoRoundFromTheRotationPointer :
    let s : State := { lively with vbc := { lively.vbc with answer := .answered, rotation := 127 } }
    s.heldInReset = false ∧ s.vbc.bus = .running ∧ s.openTick = some owing ∧ owing.frame = true ∧
      owing.bus = .running ∧ s.vbc.answer ≠ .awaiting ∧ s.vbc.clearPending = 0 ∧ s.vbc.sendList = [] ∧
        (s.voice 0).state = .sounding ∧ (s.voice 0).dirty = true := by decide +kernel

theorem witness_ReportFieldIsValidExactlyAsStated :
    lively.heldInReset = false ∧ lively.hushed ∧ lively.vbc.answer = .awaiting ∧
      (∀ i : Fin 4, (lively.engine i).present = true → (upstream 1 4 0 0 0 0 0xFB).getLsbD i.val = true) ∧
      reportOf ((upstream 1 4 0 0 0 0 0xFB).extractLsb' 8 48) = none :=
  ⟨rfl, fun _ _ => rfl, rfl, by decide +kernel⟩

theorem waking_bus : waking.BusLaws where
  present := by decide +kernel
  engines := by decide +kernel
  playing := by decide +kernel
  wakeTimer := by decide +kernel
  closeTimer := by decide +kernel
  holdOff := by decide +kernel
  clears := by decide +kernel
  rests := by decide +kernel
  hush := by decide +kernel

/-- No report, a JOIN of E1 with E2 still expected, and a LEAVE of E0. -/
theorem witness_AnswersInWakingFindAndLoseEngines :
    waking.heldInReset = false ∧ waking.hushed ∧ playing.vbc.answer ≠ .awaiting ∧ waking.vbc.answer = .awaiting ∧
      waking.vbc.bus = .waking ∧ waking.BusLaws ∧
      (∀ i : Fin 4, (waking.engine i).present = true → (upstream 1 1 1 16 0 0 0xED).getLsbD i.val = true) ∧
      reportOf ((upstream 1 0xFF 0xFF 0xFF 0xFF 0xFF 0xFF).extractLsb' 8 48) = none ∧
      reportOf ((upstream 1 1 1 16 0 0 0xED).extractLsb' 8 48) = some (.join 1 16) ∧
      waking.vbc.expected.getLsbD 1 = true ∧ (waking.engine 1).present = false ∧
      (∃ o : Fin 4, o ≠ 1 ∧ waking.vbc.expected.getLsbD o.val = true ∧ (waking.engine o).present = false) ∧
      reportOf ((upstream 1 3 0 0 0 0 0xFC).extractLsb' 8 48) = some (.leave 0) :=
  ⟨rfl, fun _ _ => rfl, by decide, rfl, rfl, waking_bus, by decide +kernel⟩

/-- `waking` with an expected mask, and a slot that waits. -/
def dawning (expected : BitVec 4) : State :=
  { waking with
    vbc := { waking.vbc with expected := expected }
    htm := { waking.htm with holds := lively.htm.holds }
    sdt := { records := [{ theRecord with slots := [{ theSlot with status := .waiting }] }], serial := 4 }
    val := { waking.val with waiting := [{ key := theKey, slot := 0 }] } }

theorem dawning_lawful (expected : BitVec 4) (he : expected ≠ 0) : (dawning expected).Lawful where
  settings := { lively_settings with expected := he }
  bus :=
    { present := waking_bus.present, engines := waking_bus.engines, playing := waking_bus.playing
      wakeTimer := waking_bus.wakeTimer, closeTimer := waking_bus.closeTimer, holdOff := waking_bus.holdOff
      clears := waking_bus.clears, rests := waking_bus.rests
      hush := fun _ => rfl }
  sendList := ⟨List.nodup_nil, show ∀ v, v ∈ [] ↔ (waking.voice v).pending ≠ .none by decide +kernel, nofun⟩
  voices :=
    { lawful := fun v => by
        have e : ∀ v, waking.voice v = Voice.reset := by decide +kernel
        show (waking.voice v).lawful
        rw [e]; simp [Voice.lawful, Voice.reset]
      inUse := fun v h => absurd ((show ∀ v, (waking.voice v).state = .free by decide +kernel) v) h
      joined := show ∀ e : Fin 4, waking.val.joined[e] = 0 by decide +kernel }
  table := table_of _ (show TableChecks (dawning 1) by decide +kernel)
  holds := hold_of _ (show HoldChecks (dawning 1) by decide +kernel)

/-- A JOIN outside the expected mask and one of a PRESENT engine, with E2 still expected; and a JOIN that is the last
expected, of an engine that is ABSENT, of one that is PRESENT and of one outside the mask. -/
theorem witness_AnswersInWakingFindAndLoseEngines_joins :
    (∀ expected, expected ≠ 0 → let s := dawning expected
      s.heldInReset = false ∧ s.hushed ∧ s.vbc.answer = .awaiting ∧ s.vbc.bus = .waking ∧ s.BusLaws ∧ s.Lawful ∧
        s.vbc.expected = expected) ∧
    (∀ i : Fin 4, (waking.engine i).present = decide (i = 0)) ∧
    (upstream 1 1 1 16 0 0 0xED).getLsbD 0 = true ∧ (upstream 1 1 0 8 0 0 0xF6).getLsbD 0 = true ∧
    reportOf ((upstream 1 1 1 16 0 0 0xED).extractLsb' 8 48) = some (.join 1 16) ∧
    reportOf ((upstream 1 1 0 8 0 0 0xF6).extractLsb' 8 48) = some (.join 0 8) ∧
    ((dawning 5).vbc.expected.getLsbD 1 = false ∧ (dawning 5).vbc.expected.getLsbD 0 = true ∧
      (dawning 5).vbc.expected.getLsbD 2 = true) ∧
    (∀ o : Fin 4, (dawning 3).vbc.expected.getLsbD o.val = true → (waking.engine o).present = true ∨ o = 1) ∧
    ∀ o : Fin 4, (dawning 1).vbc.expected.getLsbD o.val = true → (waking.engine o).present = true := by
  refine ⟨fun expected he => ⟨rfl, fun _ _ => rfl, rfl, rfl, (dawning_lawful expected he).bus,
    dawning_lawful expected he,
    rfl⟩, ?_⟩
  decide +kernel

/-- `lively` with the absence run of E0 and the expected mask given. -/
def listening (n : Nat) (expected : BitVec 4) : State :=
  { lively with
    vbc := { lively.vbc with
      expected := expected
      engines := #v[{ present := true, capacity := 8, absenceRun := n }, Engine.absent, Engine.absent,
        Engine.absent] } }

theorem listening_lawful (n : Nat) (hn : n < 8) (expected : BitVec 4) (he : expected ≠ 0) :
    (listening n expected).Lawful where
  settings := { lively_settings with expected := he }
  bus :=
    { present := fun _ _ => .inr rfl
      engines := fun e => by
        have h : (listening n expected).engine e = Engine.absent ∨
            (listening n expected).engine e = { present := true, capacity := 8, absenceRun := n } := by
          match e with
          | 0 => exact .inr rfl
          | 1 | 2 | 3 => exact .inl rfl
        rcases h with h | h <;> rw [h] <;> simp [Engine.absent, hn]
      playing := lively_bus.playing, wakeTimer := lively_bus.wakeTimer, closeTimer := lively_bus.closeTimer
      holdOff := lively_bus.holdOff
      clears := fun e h => absurd (show (0 : BitVec 4).getLsbD e.val = true from h) (by simp)
      rests := lively_bus.rests, hush := lively_bus.hush }
  sendList := ⟨lively_sends.once, lively_sends.pending, lively_sends.contents⟩
  voices :=
    { lawful := lively_voices.lawful
      inUse := fun v h => by
        have e : v = 0 := by
          revert h
          show (lively.voice v).state ≠ .free → v = 0
          rw [lively_voice]
          split
          · exact fun _ => ‹_›
          · exact fun h => absurd rfl h
        subst e
        rfl
      joined := fun e => by
        match e with
        | 0 | 1 | 2 | 3 => rfl }
  table := one_note_table _ theRecord theSlot rfl rfl (by decide) rfl ⟨rfl, rfl, by decide⟩
    (show ∀ v, (lively.voice v).owner = if v = 0 then some { key := theKey, slot := 0 } else none by decide +kernel)
    (show (lively.voice 0).side = .treble by decide +kernel) rfl
  holds := hold_of _ (show HoldChecks lively by decide +kernel)

/-- A field that is no report, a LEAVE of E0 and of E1, a JOIN of E0 and of E3, a JOIN outside the expected mask, and
the seventh and the eighth absence. -/
theorem witness_AnswersInRunningJoinAndLoseEngines :
    (∀ n expected, n < 8 → expected ≠ 0 → let s := listening n expected
      s.heldInReset = false ∧ s.Lawful ∧ s.vbc.bus = .running ∧ s.vbc.answer = .awaiting ∧ s.openTick = some owing) ∧
    owing.frame = true ∧ owing.bus = .running ∧
    (∀ n e, ((listening n 15).engine e).present = true ↔ e = 0) ∧
    ((listening 6 15).engine 0).absenceRun < 7 ∧ ((listening 7 15).engine 0).absenceRun = 7 ∧
    (upstream 1 0 0 0 0 0 0).getLsbD 0 = true ∧ (BitVec.ofNat 56 (2 ^ 56 - 2 ^ 8)).getLsbD 0 = false ∧
    reportOf ((BitVec.ofNat 56 (2 ^ 56 - 2 ^ 8)).extractLsb' 8 48) = none ∧
    reportOf ((upstream 1 3 0 0 0 0 0xFC).extractLsb' 8 48) = some (.leave 0) ∧
    reportOf ((upstream 1 3 1 0 0 0 0xFB).extractLsb' 8 48) = some (.leave 1) ∧
    reportOf ((upstream 1 1 0 8 0 0 0xF6).extractLsb' 8 48) = some (.join 0 8) ∧
    reportOf ((upstream 1 1 3 32 0 0 0xDB).extractLsb' 8 48) = some (.join 3 32) ∧
    (listening 0 1).vbc.expected.getLsbD 3 = false ∧ (listening 0 15).vbc.expected.getLsbD 3 = true :=
  ⟨fun n expected hn he => ⟨rfl, listening_lawful n hn expected he, rfl, rfl, rfl⟩, rfl, rfl,
    fun n e => by
      match e with
      | 0 => exact ⟨fun _ => rfl, fun _ => rfl⟩
      | 1 | 2 | 3 => exact ⟨nofun, nofun⟩,
    by decide +kernel⟩

theorem witness_WakeTimerExpiryFailsOrRuns :
    waking.heldInReset = false ∧ waking.vbc.bus = .waking ∧ (∃ e, (waking.engine e).present = true) ∧
      (onBus .waking playing).heldInReset = false ∧ (onBus .waking playing).vbc.bus = .waking ∧
      (∀ e, ((onBus .waking playing).engine e).present = false) ∧ (onBus .waking playing).hushed :=
  ⟨rfl, rfl, by decide +kernel, rfl, rfl, by decide +kernel, fun _ _ => rfl⟩

/-- Every bus state; a hold-off that runs; a voice that sounds as the bus closes. -/
theorem witness_BusRequestsAndTimersMoveTheBus :
    (∀ bus, (onBus bus playing).heldInReset = false ∧ (onBus bus playing).hushed ∧
      (onBus bus playing).cpt.busy = false ∧
      (onBus bus playing).vbc.bus = bus) ∧
    (let s : State := { playing with vbc := { playing.vbc with bus := .quiet, holdOff := some 5 } }
     s.heldInReset = false ∧ s.hushed ∧ s.vbc.bus = .quiet ∧ s.vbc.holdOff ≠ none) ∧
    lively.hushed ∧ lively.vbc.bus = .running ∧ (lively.voice 0).state = .sounding ∧
      (lively.voice 0).owner = some { key := theKey, slot := 0 } ∧ lively.slot? { key := theKey, slot := 0 } ≠ none :=
  ⟨fun _ => ⟨rfl, fun _ _ => rfl, rfl, rfl⟩, ⟨rfl, fun _ _ => rfl, rfl, nofun⟩, fun _ _ => rfl, rfl, by decide +kernel⟩

/-- The last entry and the first beyond, the last halves and the first beyond; a carrying half, an unvisited side, and
neither of them. -/
theorem witness_ApplyCopiesHalvesAndStartsOrSupersedes :
    lively.ready ∧ 32 ≤ (32 : Byte).toNat ∧ 2 < (3 : Byte).toNat ∧ (31 : Byte).toNat < 32 ∧ (2 : Byte).toNat ≤ 2 ∧
      lively.rsa.table[(31 : Fin 32)].treble.mode = .carry ∧
      (∃ p, lively.rsa.pass = some p ∧ p.sides.has .treble = true ∧
        ∃ y ∈ lively.sdt.records, y.key.side = .treble ∧ y.generation ≠ lively.rsa.generation) ∧
      let next : Registration :=
        { treble := { Half.default 12 with mode := .next }, bass := { Half.default 5 with mode := .next } }
      let s : State := { lively with rsa := { lively.rsa with pass := none, table := Vector.replicate 32 next } }
      s.ready ∧ s.rsa.pass = none ∧ s.rsa.table[(31 : Fin 32)].treble.mode ≠ .carry ∧
        s.rsa.table[(31 : Fin 32)].bass.mode ≠ .carry :=
  ⟨lively_ready, by decide, by decide, by decide, by decide, by decide +kernel, ⟨_, rfl, by decide +kernel⟩,
    ⟨rfl, rfl⟩, rfl, by decide +kernel⟩

/-- A pass with a record to visit, as `lively` has one, and a pass with none. -/
theorem witness_PassTickVisitsTheEightOldest :
    let p : Pass := { sides := .both, owner := 1 }
    let s : State := { lively with rsa := { lively.rsa with generation := 0 } }
    lively.heldInReset = false ∧ lively.rsa.pass = some p ∧ lively.openTick = some owing ∧ owing.visits = true ∧
      lively.TableLaws ∧ (lively.sdt.records.map (·.stamp)).Nodup ∧ theRecord.generation ≠ lively.rsa.generation ∧
      s.heldInReset = false ∧ s.rsa.pass = some p ∧ s.openTick = some owing ∧ s.TableLaws ∧
      (s.sdt.records.map (·.stamp)).Nodup ∧ s.hushed ∧
      ∀ x ∈ s.sdt.records, ¬ (p.sides.has x.key.side = true ∧ x.generation ≠ s.rsa.generation) :=
  ⟨rfl, rfl, rfl, rfl, lively_table, by decide +kernel, by decide +kernel, rfl, rfl, rfl,
    table_of _ (by decide +kernel), by decide +kernel, fun _ _ => rfl, by decide +kernel⟩

/-- A resting bus and a record of no slots for a pass to visit. -/
def unvoiced : State :=
  { onBus .quiet playing with
    openTick := some owing
    sdt := { records := [{ theRecord with holders := [], slots := [] }], serial := 4 }
    rsa := { playing.rsa with generation := 1, pass := some { sides := .treble, owner := 1 } } }

theorem unvoiced_table : unvoiced.TableLaws := table_of unvoiced (by decide +kernel)

/-- A slot whose voice goes on; one whose timbre changes; a record without voices on a bus that is not RUNNING. -/
theorem witness_VisitKeepsOrRebuildsTheSlots :
    (∀ timbre, let s : State := { lively with rsa := { lively.rsa with
        treble := { lively.rsa.treble with layers := [{ Layer.default with timbre := timbre }] } } }
      s.heldInReset = false ∧ s.rsa.pass = some { sides := .both, owner := 1 } ∧ s.openTick = some owing ∧
        s.TableLaws ∧ s.VoiceLaws ∧ s.record? theRecord.key = some theRecord ∧
        (s.current .treble).layers = [{ Layer.default with timbre := timbre }] ∧
        (Sides.both.has theRecord.key.side = true ∧ theRecord.generation ≠ s.rsa.generation) ∧
        ∀ y ∈ s.sdt.records, y = theRecord) ∧
    owing.visits = true ∧ theRecord.slots = [theSlot] ∧ theSlot.status = .voiced 0 ∧ theSlot.layer = Layer.default ∧
      Layer.default.engineMask.getLsbD (engineOf 0).val = true ∧
      soundingPitch 60 Layer.default.transpose = theSlot.soundingPitch ∧
    unvoiced.heldInReset = false ∧ unvoiced.rsa.pass = some { sides := .treble, owner := 1 } ∧
      unvoiced.openTick = some owing ∧ unvoiced.TableLaws ∧ unvoiced.VoiceLaws ∧
      unvoiced.record? theKey = some { theRecord with holders := [], slots := [] } ∧ unvoiced.vbc.bus ≠ .running :=
  ⟨fun timbre => ⟨rfl, rfl, rfl,
      one_note_table _ theRecord theSlot rfl rfl (by decide) rfl ⟨rfl, rfl, by decide⟩
        (show ∀ v, (lively.voice v).owner = if v = 0 then some { key := theKey, slot := 0 } else none by decide +kernel)
        (show (lively.voice 0).side = .treble by decide +kernel) rfl,
      ⟨lively_voices.lawful, lively_voices.inUse, lively_voices.joined⟩, rfl, rfl,
      ⟨rfl, show (0 : BitVec 16) ≠ 1 by decide⟩,
      fun y h => List.mem_singleton.1 h⟩,
    rfl, rfl, rfl, rfl, by decide, by decide, rfl, rfl, rfl, unvoiced_table,
    ⟨fun v => by
      have : ∀ v, unvoiced.voice v = Voice.reset := by decide +kernel
      rw [this]; simp [Voice.lawful, Voice.reset], by decide +kernel, by decide +kernel⟩,
    rfl, nofun⟩

theorem witness_StartAndWakeBringThePartToPlaying :
    State.reset.ready ∧ State.reset.act.activity = .setup ∧ playing.ready ∧ playing.act.activity = .playing ∧
      resting.ready ∧ resting.act.activity = .resting :=
  ⟨reset_ready, rfl, ⟨rfl, rfl⟩, rfl, ⟨rfl, rfl⟩, rfl⟩

/-- A quiet part at a millisecond tick, just before the hush time and long before it; the expiry in each bus state,
with the count at the hush time and one short of it. -/
theorem witness_QuietPartComesToRest :
    (∀ n, let s : State := { playing with frameTicks := 3, act := { playing.act with hush := n } }
      s.pending = [] ∧ s.heldInReset = false ∧ s.act.activity = .playing ∧ s.quiet = playing.quiet ∧
        s.openTick = none ∧ (s.frameTicks + 1) % 4 = 0 ∧ s.vbc.bus = .held ∧ s.vbc.wakeTimer = none ∧
        s.vbc.holdOff = none ∧ s.vbc.closeTimer = none ∧ s.blr.complete = none ∧
        s.blr.lossTimer + 1 < s.blr.lossTime ∧ s.ksu.group.state = .armed ∧ s.blr.group.state = .armed) ∧
    playing.quiet = true ∧ playing.act.hushTime * 1000 ≤ min 60000 (19999 + 1) ∧
      ¬ playing.act.hushTime * 1000 ≤ min 60000 (19998 + 1) ∧
    (∀ bus n, let s : State := onBus bus { playing with act := { playing.act with hush := n } }
      s.heldInReset = false ∧ s.vbc.bus = bus ∧ s.act.activity = .playing ∧ s.quiet = playing.quiet ∧
        s.act.hush = n) ∧
    (onBus .running restful).hushed ∧ 1 ≤ playing.act.hushTime ∧ playing.act.hushTime * 1000 ≤ 20000 ∧
      19999 < playing.act.hushTime * 1000 ∧ resting.act.activity ≠ .playing ∧ lively.quiet = false :=
  ⟨fun _ => ⟨rfl, rfl, rfl, rfl, rfl, (by decide : (3 + 1) % 4 = 0), rfl, rfl, rfl, rfl, rfl,
    (by decide : 0 + 1 < 40), rfl, rfl⟩, by decide +kernel, by decide, by decide,
    fun _ _ => ⟨rfl, rfl, rfl, rfl, rfl⟩, fun _ h => absurd h (by decide +kernel), by decide +kernel⟩

/-- A quiet part whose expiry is due at the millisecond tick that stands. -/
def nodding : State := { restful with openTick := some (spent .held true) }

theorem restful_wakes :
    restful.scanWakes (BitVec.twoPow 96 95) 0 0 ∧ restful.scanWakes 0 1 0 ∧ restful.frameWakes (pressing 1 0x49) :=
  ⟨.inl ⟨95, by decide +kernel⟩, .inr (.inr ⟨0, by unfold TabGroup.departs; decide +kernel⟩),
    by decide +kernel, .inl ⟨0, by decide +kernel⟩⟩

/-- A press, a tab's departure, a NOTICE edge and a bass press, in a quiet part at the instant of its expiry; one whose
count has come to its end at no such instant, and one whose count has not. -/
theorem witness_QuietPartComesToRest_tie :
    (∀ n o, let s : State := { restful with act := { restful.act with hush := n }, openTick := o }
      s.heldInReset = false ∧ s.act.activity = .playing ∧ s.quiet = restful.quiet ∧ s.blr.complete = none ∧
        s.scanWakes (BitVec.twoPow 96 95) 0 0 ∧ s.scanWakes 0 1 0 ∧ s.frameWakes (pressing 1 0x49)) ∧
    restful.quiet = true ∧ 1 ≤ restful.act.hushTime ∧
    (nodding.act.hushTime * 1000 ≤ nodding.act.hush ∧ ∃ o ∈ nodding.openTick, o.millisecond = true) ∧
    (restful.act.hushTime * 1000 ≤ restful.act.hush ∧ restful.openTick = none) ∧
    ¬ restful.act.hushTime * 1000 ≤ 19999 ∧
    let s : State := { nodding with ksu := { nodding.ksu with
      switches := Vector.replicate 4 { ChinSwitch.reset with action := .notice } } }
    s.quiet = true ∧ s.scanWakes 0 0 8 :=
  ⟨fun _ _ => ⟨rfl, rfl, rfl, rfl, restful_wakes.1, restful_wakes.2.1, restful_wakes.2.2⟩, by decide +kernel,
    by decide, by decide +kernel, ⟨by decide, rfl⟩, by decide, by decide +kernel,
    .inr (.inl ⟨3, by decide +kernel⟩)⟩

/-- A quiet part with RECALL at its first two switches, of an entry with the mode given and of one with NEXT. -/
def recalling (mode : SwitchMode) : State :=
  let entry := fun m : SwitchMode =>
    ({ treble := { Half.default 12 with mode := m }, bass := { Half.default 5 with mode := m } } : Registration)
  let switch := { ChinSwitch.reset with action := .recall, registration := 1, halves := .both }
  { restful with
    ksu := { restful.ksu with
      switches := (restful.ksu.switches.set 0 { switch with registration := 0 }).set 1 switch }
    rsa := { restful.rsa with
      table := (restful.rsa.table.set 0 (entry mode)).set 1 (entry .next) } }

/-- One RECALL in a scan, and two of which the first begins a pass and the second ends it, or neither begins one; after
each the part is quiet, and the count is 0 where the pass began (R149, R157). -/
theorem witness_QuietPartComesToRest_recalls :
    (∀ mode, (recalling mode).heldInReset = false ∧ (recalling mode).act.activity = .playing ∧
      (recalling mode).quiet = true ∧ (recalling mode).openTick = none ∧ (recalling mode).act.hush = 20000) ∧
    (recalling .next).scanWakes 0 0 2 ∧ (recalling .carry).scanWakes 0 0 3 ∧ (recalling .next).scanWakes 0 0 3 ∧
    (let t := run (.scanCompletion 0 0 2) (recalling .next)
     t.quiet = true ∧ t.rsa.generation = 1 ∧ t.act.hush = 20000) ∧
    (let t := run (.scanCompletion 0 0 3) (recalling .carry)
     t.quiet = true ∧ t.rsa.generation = 2 ∧ t.act.hush = 0) ∧
    let t := run (.scanCompletion 0 0 3) (recalling .next)
    t.quiet = true ∧ t.rsa.generation = 2 ∧ t.act.hush = 20000 :=
  ⟨fun mode => by cases mode <;> decide +kernel, .inr (.inl ⟨1, by decide +kernel⟩),
    .inr (.inl ⟨0, by decide +kernel⟩), .inr (.inl ⟨0, by decide +kernel⟩), by decide +kernel⟩

/-- R158: the expiry that is due rests the part, and a tab's departure that comes before it leaves none. -/
theorem test_wake_cause_comes_before_the_expiry :
    (run .hushExpiry nodding).act.activity = .resting ∧
      let t := stepped (run (.scanCompletion 0 1 0) nodding)
      t.act.activity = .playing ∧ t.act.hush = 0 := by decide +kernel

end Tests
end

section
/-! The offset sample of stage 1 (R35) and the bellows level of stage 3 (R40). -/

namespace Sys2Proof.Machine

/-! ## `clampInt` -/

theorem clampInt_of_within {lo hi x : Int} (hlo : lo ≤ x) (hhi : x ≤ hi) : clampInt lo hi x = x := by
  rw [clampInt, min_eq_left hhi, max_eq_right hlo]

theorem clampInt_of_above {lo hi x : Int} (hle : lo ≤ hi) (h : hi < x) : clampInt lo hi x = hi := by
  rw [clampInt, min_eq_right h.le, max_eq_right hle]

theorem clampInt_of_below {lo hi x : Int} (h : x < lo) : clampInt lo hi x = lo :=
  max_eq_left ((min_le_left x hi).trans h.le)

theorem le_clampInt (lo hi x : Int) : lo ≤ clampInt lo hi x := le_max_left _ _

theorem clampInt_le {lo hi : Int} (x : Int) (hle : lo ≤ hi) : clampInt lo hi x ≤ hi :=
  max_le hle (min_le_right x hi)

/-- A clamp to limits on either side of zero keeps the sense of a value. -/
theorem clampInt_pos_iff {lo hi : Int} (x : Int) (hlo : lo < 0) (hhi : 0 < hi) : 0 < clampInt lo hi x ↔ 0 < x := by
  simp [clampInt, hhi, hlo.not_gt]

theorem clampInt_neg_iff {lo hi : Int} (x : Int) (hlo : lo < 0) (hhi : 0 < hi) : clampInt lo hi x < 0 ↔ x < 0 := by
  simp [clampInt, hlo, hhi.not_gt]

/-! ## The offset sample -/

theorem offsetSample_of_within {p o : Int} (hlo : -2047 ≤ p - o) (hhi : p - o ≤ 2047) : offsetSample p o = p - o :=
  clampInt_of_within hlo hhi

theorem offsetSample_of_above {p o : Int} (h : 2047 < p - o) : offsetSample p o = 2047 :=
  clampInt_of_above (by decide) h

theorem offsetSample_of_below {p o : Int} (h : p - o < -2047) : offsetSample p o = -2047 :=
  clampInt_of_below h

theorem offsetSample_natAbs_le (p o : Int) : (offsetSample p o).natAbs ≤ 2047 := by
  have hlo : -2047 ≤ offsetSample p o := le_clampInt _ _ _
  have hhi : offsetSample p o ≤ 2047 := clampInt_le _ (by decide)
  omega

theorem offsetSample_pos_iff (p o : Int) : 0 < offsetSample p o ↔ 0 < p - o :=
  clampInt_pos_iff _ (by decide) (by decide)

theorem offsetSample_neg_iff (p o : Int) : offsetSample p o < 0 ↔ p - o < 0 :=
  clampInt_neg_iff _ (by decide) (by decide)

/-! ## The bellows level -/

theorem bellowsLevel_of_le {m d : Nat} (h : m ≤ d) : bellowsLevel m d = 0 := if_pos h

theorem bellowsLevel_of_gt {m d : Nat} (h : d < m) :
    bellowsLevel m d = min 1023 ((m - d) * 1023 / (2047 - d)) :=
  if_neg h.not_ge

/-- At full pressure the dividend is 1023 times the divisor, whatever the dead band. -/
theorem bellowsLevel_full {d : Nat} (h : d < 2047) : bellowsLevel 2047 d = 1023 := by
  rw [bellowsLevel_of_gt h, Nat.mul_div_cancel_left 1023 (Nat.sub_pos_of_lt h), min_self]

/-- Below full pressure the dividend falls short of 1023 times the divisor. -/
theorem bellowsLevel_lt_full {m d : Nat} (h : m < 2047) : bellowsLevel m d < 1023 := by
  rcases le_or_gt m d with hin | hout
  · rw [bellowsLevel_of_le hin]
    decide
  · rw [bellowsLevel_of_gt hout]
    have hquot : (m - d) * 1023 / (2047 - d) < 1023 := by
      rw [Nat.div_lt_iff_lt_mul (by omega)]
      omega
    exact (min_le_right _ _).trans_lt hquot

theorem bellowsLevel_mono {m n : Nat} (d : Nat) (h : m ≤ n) : bellowsLevel m d ≤ bellowsLevel n d := by
  rcases le_or_gt m d with hin | hout
  · rw [bellowsLevel_of_le hin]
    exact Nat.zero_le _
  · rw [bellowsLevel_of_gt hout, bellowsLevel_of_gt (hout.trans_le h)]
    exact min_le_min_left _ (Nat.div_le_div_right (Nat.mul_le_mul_right _ (Nat.sub_le_sub_right h d)))

/-- Settles O30: stage 1 case by case on the difference, then stage 3 on either side of the dead band. -/
theorem bellowsLevelStaysOnItsScale : Obligations.BellowsLevelStaysOnItsScale := by
  refine ⟨fun p o hp hp' ho ho' => ?stage1, fun d hd => ?stage3⟩
  case stage1 =>
    exact ⟨by omega, offsetSample_of_within, offsetSample_of_above, offsetSample_of_below,
      offsetSample_natAbs_le p o, (offsetSample_pos_iff p o).symm, (offsetSample_neg_iff p o).symm⟩
  case stage3 =>
    exact ⟨fun _ => bellowsLevel_of_le, fun _ => bellowsLevel_of_gt, bellowsLevel_full (by omega),
      fun _ => bellowsLevel_lt_full, fun _ _ h _ => bellowsLevel_mono d h⟩

end Sys2Proof.Machine
end

section
/-! The bass buttons' pitches: the fold of a pitch class (R53) and the Stradella rows (R52). -/

namespace Sys2Proof.Machine

/-! ## The fold of R53 -/

/-- R53: the folded pitch is the one pitch of its class within the twelve that begin at the base. -/
theorem fold_eq_iff {base p : Nat} {cls : Int} :
    fold base cls = p ↔ base ≤ p ∧ p ≤ base + 11 ∧ (p : Int) % 12 = cls % 12 := by
  unfold fold
  omega

theorem le_fold (base : Nat) (cls : Int) : base ≤ fold base cls := (fold_eq_iff.1 rfl).1

theorem fold_le (base : Nat) (cls : Int) : fold base cls ≤ base + 11 := (fold_eq_iff.1 rfl).2.1

theorem fold_emod (base : Nat) (cls : Int) : (fold base cls : Int) % 12 = cls % 12 := (fold_eq_iff.1 rfl).2.2

/-! ## The rows of Table 4-2 -/

theorem rowClasses_nodup (row : Nat) : (rowClasses row).Nodup := by
  unfold rowClasses
  split <;> decide

theorem rowClasses_length (row : Nat) : (rowClasses row).length = if row < 2 then 1 else 3 := by
  match row with
  | 0 | 1 | 2 | 3 | 4 => rfl
  | n + 5 => exact (if_neg (by omega)).symm

theorem emod_of_mem_rowClasses {row : Nat} {c : Int} (h : c ∈ rowClasses row) : c % 12 = c := by
  have hall : ∀ c ∈ rowClasses row, c % 12 = c := by
    unfold rowClasses
    split <;> decide
  exact hall c h

/-! ## The pitches of a bass button -/

theorem State.playedPitches_bass (s : State) (k : Fin 120) :
    s.playedPitches (.bass k) = some (bassPitches s.htm.bassBase s.htm.chordBase k) := rfl

theorem mem_bassPitches {bassBase chordBase p : Nat} {k : Fin 120} :
    p ∈ bassPitches bassBase chordBase k ↔ ∃ c ∈ rowClasses (k.val % 6),
      fold (if k.val % 6 < 2 then bassBase else chordBase) ((rootClass (k.val / 6) + c) % 12) = p :=
  List.mem_map

theorem length_bassPitches (bassBase chordBase : Nat) (k : Fin 120) :
    (bassPitches bassBase chordBase k).length = if k.val % 6 < 2 then 1 else 3 :=
  (List.length_map _).trans (rowClasses_length _)

/-- Measured from the root that R52 gives the column, a folded class is the row's own class again. -/
theorem fold_sub_root_emod (base column : Nat) (c : Int) :
    ((fold base ((rootClass column + c) % 12) : Int) - 7 * ((column : Int) - 8)) % 12 = c % 12 := by
  have hclass := fold_emod base ((rootClass column + c) % 12)
  unfold rootClass at hclass ⊢
  omega

theorem bassPitches_map_sub_root (bassBase chordBase : Nat) (k : Fin 120) :
    (bassPitches bassBase chordBase k).map (fun p : Nat => ((p : Int) - 7 * ((k.val / 6 : Nat) - 8 : Int)) % 12) =
      rowClasses (k.val % 6) := by
  rw [bassPitches, List.map_map]
  calc
    _ = (rowClasses (k.val % 6)).map id :=
      List.map_congr_left fun c hc => (fold_sub_root_emod _ _ c).trans (emod_of_mem_rowClasses hc)
    _ = rowClasses (k.val % 6) := List.map_id _

/-- The pitches differ because their classes do. -/
theorem bassPitches_nodup (bassBase chordBase : Nat) (k : Fin 120) : (bassPitches bassBase chordBase k).Nodup := by
  refine List.Nodup.of_map (fun p : Nat => ((p : Int) - 7 * ((k.val / 6 : Nat) - 8 : Int)) % 12) ?_
  rw [bassPitches_map_sub_root]
  exact rowClasses_nodup _

theorem bounds_of_mem_bassPitches {bassBase chordBase p : Nat} {k : Fin 120}
    (h : p ∈ bassPitches bassBase chordBase k) :
    (if k.val % 6 < 2 then bassBase else chordBase) ≤ p ∧ p ≤ (if k.val % 6 < 2 then bassBase else chordBase) + 11 := by
  obtain ⟨c, -, rfl⟩ := mem_bassPitches.1 h
  exact ⟨le_fold _ _, fold_le _ _⟩

/-- Settles O34: the pitches' classes above the root are the row's, and the other clauses follow from the row and from
the fold. -/
theorem bassButtonsFoldIntoTheirBase : Obligations.BassButtonsFoldIntoTheirBase := by
  refine ⟨by decide, State.playedPitches_bass, fun bassBase chordBase k hbass hchord => ?_⟩
  refine ⟨bassPitches_nodup _ _ k, length_bassPitches _ _ k, fun p hp => ?range, ?classes⟩
  case range =>
    obtain ⟨hlo, hhi⟩ := bounds_of_mem_bassPitches hp
    have hbase : (if k.val % 6 < 2 then bassBase else chordBase) ≤ 116 := by
      split
      · exact hbass
      · exact hchord
    exact ⟨hlo, hhi, by omega⟩
  case classes =>
    -- The statement reads the list as one of integers, by a bind, before it maps it.
    rw [bind_pure_comp, List.map_eq_map, List.map_map]
    exact bassPitches_map_sub_root _ _ k

end Sys2Proof.Machine
end

section
/-! The volume step of R111 and the tilt step of R112. -/

namespace Sys2Proof.Machine

/-! ## The volume step -/

/-- R111: the nearest whole number to the product over 127, which is odd, so that no product lies halfway. -/
theorem volumeStep_eq_iff {c volume v : Nat} :
    volumeStep c volume = v ↔ 127 * v ≤ c * volume + 63 ∧ c * volume + 63 < 127 * v + 127 := by
  unfold volumeStep
  omega

@[simp] theorem volumeStep_full (c : Nat) : volumeStep c 127 = c :=
  volumeStep_eq_iff.2 (by omega)

@[simp] theorem volumeStep_zero_right (c : Nat) : volumeStep c 0 = 0 :=
  volumeStep_eq_iff.2 (by omega)

@[simp] theorem volumeStep_zero_left (volume : Nat) : volumeStep 0 volume = 0 :=
  volumeStep_eq_iff.2 (by omega)

theorem volumeStep_mono_right (c : Nat) {volume volume' : Nat} (h : volume ≤ volume') :
    volumeStep c volume ≤ volumeStep c volume' :=
  Nat.div_le_div_right (Nat.add_le_add_right (Nat.mul_le_mul_left c h) 63)

/-- A volume only ever lowers the curve's value. -/
theorem volumeStep_le_curve (c : Nat) {volume : Nat} (h : volume ≤ 127) : volumeStep c volume ≤ c :=
  (volumeStep_mono_right c h).trans_eq (volumeStep_full c)

/-! ## The tilt step -/

/-- R112: rounding toward minus infinity, a step reaches k exactly where the product reaches 16 k. -/
theorem le_tiltStep_iff {k tilt : Int} {pitch : Nat} :
    k ≤ tiltStep tilt pitch ↔ 16 * k ≤ tilt * ((pitch : Int) - 60) := by
  rw [tiltStep, Int.le_ediv_iff_mul_le (by decide), mul_comm]

theorem tiltStep_lt_iff {k tilt : Int} {pitch : Nat} :
    tiltStep tilt pitch < k ↔ tilt * ((pitch : Int) - 60) < 16 * k := by
  rw [← not_le, le_tiltStep_iff, not_le]

@[simp] theorem tiltStep_middleC (tilt : Int) : tiltStep tilt 60 = 0 := by
  simp [tiltStep]

theorem tiltStep_nonneg_iff {tilt : Int} {pitch : Nat} :
    0 ≤ tiltStep tilt pitch ↔ 0 ≤ tilt * ((pitch : Int) - 60) :=
  le_tiltStep_iff

/-- However small, a negative product costs a whole step. -/
theorem tiltStep_le_neg_one_iff {tilt : Int} {pitch : Nat} :
    tiltStep tilt pitch ≤ -1 ↔ tilt * ((pitch : Int) - 60) < 0 :=
  (Int.lt_add_one_iff (b := -1)).symm.trans tiltStep_lt_iff

/-- A positive product gains nothing before it reaches 16. -/
theorem tiltStep_one_pos_iff {pitch : Nat} : 0 < tiltStep 1 pitch ↔ 76 ≤ pitch := by
  rw [Int.lt_iff_add_one_le, le_tiltStep_iff]
  omega

/-- The product is least at the end of the tilt's range that lowers the level more: −8 above middle C, 7 below it. -/
theorem neg_536_le_tilt_product {tilt : Int} {pitch : Nat} (hlo : -8 ≤ tilt) (hhi : tilt ≤ 7) (hp : pitch ≤ 127) :
    -536 ≤ tilt * ((pitch : Int) - 60) := by
  rcases le_total 60 (pitch : Int) with habove | hbelow
  · have hleast := mul_le_mul_of_nonneg_right hlo (sub_nonneg.2 habove)
    omega
  · have hleast := mul_le_mul_of_nonpos_right hhi (sub_nonpos.2 hbelow)
    omega

/-- The product is greatest at the end of the tilt's range that raises the level more: 7 above middle C, −8 below it. -/
theorem tilt_product_le_480 {tilt : Int} {pitch : Nat} (hlo : -8 ≤ tilt) (hhi : tilt ≤ 7) (hp : pitch ≤ 127) :
    tilt * ((pitch : Int) - 60) ≤ 480 := by
  rcases le_total 60 (pitch : Int) with habove | hbelow
  · have hgreatest := mul_le_mul_of_nonneg_right hhi (sub_nonneg.2 habove)
    omega
  · have hgreatest := mul_le_mul_of_nonpos_right hlo (sub_nonpos.2 hbelow)
    omega

theorem neg_34_le_tiltStep {tilt : Int} {pitch : Nat} (hlo : -8 ≤ tilt) (hhi : tilt ≤ 7) (hp : pitch ≤ 127) :
    -34 ≤ tiltStep tilt pitch :=
  le_tiltStep_iff.2 (le_trans (by decide) (neg_536_le_tilt_product hlo hhi hp))

theorem tiltStep_le_30 {tilt : Int} {pitch : Nat} (hlo : -8 ≤ tilt) (hhi : tilt ≤ 7) (hp : pitch ≤ 127) :
    tiltStep tilt pitch ≤ 30 :=
  Int.lt_add_one_iff.1 (tiltStep_lt_iff.2 ((tilt_product_le_480 hlo hhi hp).trans_lt (by decide)))

/-- Settles O45: the volume step is placed by its product, the tilt step by the sign and the extremes of its own. -/
theorem volumeAndTiltStepsAreAsStated : Obligations.VolumeAndTiltStepsAreAsStated := by
  refine ⟨fun c volume hc hvolume => ?volume, fun tilt pitch hlo hhi hp => ?tilt, ?table⟩
  case volume =>
    have hproduct : c * volume ≤ 127 * 127 := Nat.mul_le_mul hc hvolume
    obtain ⟨hfloor, hceil⟩ := volumeStep_eq_iff.1 (rfl : volumeStep c volume = _)
    exact ⟨rfl, by omega, by omega, by omega, by omega, volumeStep_full c, volumeStep_zero_right c,
      volumeStep_zero_left volume, (volumeStep_le_curve c hvolume).trans hc⟩
  case tilt =>
    refine ⟨le_tiltStep_iff.1 le_rfl, ?_, neg_34_le_tiltStep hlo hhi hp, tiltStep_le_30 hlo hhi hp,
      tiltStep_middleC tilt, fun hup => ⟨fun habove => ?_, fun hbelow => ?_⟩,
      fun hdown => ⟨fun habove => ?_, fun hbelow => ?_⟩, tiltStep_one_pos_iff⟩
    · exact (tiltStep_lt_iff.1 (Int.lt_succ _)).trans_eq (mul_add_one 16 _)
    · exact tiltStep_nonneg_iff.2 (mul_nonneg hup.le (by omega))
    · exact tiltStep_le_neg_one_iff.2 (mul_neg_of_pos_of_neg hup (by omega))
    · exact tiltStep_le_neg_one_iff.2 (mul_neg_of_neg_of_pos hdown (by omega))
    · exact tiltStep_nonneg_iff.2 (mul_nonneg_of_nonpos_of_nonpos hdown.le (by omega))
  case table => decide

end Sys2Proof.Machine
end

section
/-! The report field of an upstream frame (R130) and the presence bits it comes with (R129, R134). -/

namespace Sys2Proof.Machine

/-! ## The report field -/

/-- R175: a DONE's tag is the low bits of the field's fourth byte. -/
theorem extractLsb'_eq_setWidth_byteAt_three (field : BitVec 48) :
    field.extractLsb' 24 2 = (byteAt field 3).setWidth 2 := by
  rw [byteAt, BitVec.setWidth_extractLsb'_of_le (by decide)]

theorem reportOf_of_bad {field : BitVec 48} (h : field = BitVec.allOnes 48 ∨ byteSum field 6 % 256 ≠ 0xFF) :
    reportOf field = none := if_pos h

theorem reportOf_of_no_engine {field : BitVec 48} (h : ¬ (byteAt field 1).toNat < 4) : reportOf field = none := by
  simp [reportOf, h]

/-- R130: the report by its kind, where the field is not idle, its sum is right and its engine is one of the four. -/
theorem reportOf_of_engine {field : BitVec 48} {e : Fin 4} (hidle : field ≠ BitVec.allOnes 48)
    (hsum : byteSum field 6 % 256 = 0xFF) (he : e.val = (byteAt field 1).toNat) :
    reportOf field =
      if byteAt field 0 = 1 then some (.join e (clamp 8 32 (byteAt field 2).toNat))
      else if byteAt field 0 = 2 then
        if (byteAt field 2).toNat ≤ 31 then some (.done e (byteAt field 2).toNat ((byteAt field 3).setWidth 2))
        else none
      else if byteAt field 0 = 3 then some (.leave e)
      else none := by
  have hlt : (byteAt field 1).toNat < 4 := he ▸ e.isLt
  obtain rfl : e = ⟨(byteAt field 1).toNat, hlt⟩ := Fin.ext he
  rw [← extractLsb'_eq_setWidth_byteAt_three, reportOf, if_neg (not_or.2 ⟨hidle, not_not.2 hsum⟩), dif_pos hlt]

/-- R130: the report that the kind byte of a field names for an engine. -/
theorem reportOf_eq_some_iff_of_engine {field : BitVec 48} {e : Fin 4} {r : Report} (hidle : field ≠ BitVec.allOnes 48)
    (hsum : byteSum field 6 % 256 = 0xFF) (he : e.val = (byteAt field 1).toNat) :
    reportOf field = some r ↔
      (byteAt field 0 = 1 ∧ r = .join e (clamp 8 32 (byteAt field 2).toNat) ∨
        byteAt field 0 = 2 ∧ (byteAt field 2).toNat ≤ 31 ∧
          r = .done e (byteAt field 2).toNat ((byteAt field 3).setWidth 2) ∨
        byteAt field 0 = 3 ∧ r = .leave e) := by
  rw [reportOf_of_engine hidle hsum he]
  split_ifs with hjoin hdone hlocal hleave
  case pos => simp [hjoin, eq_comm]
  case pos => simp [hdone, hlocal, eq_comm]
  case neg => simp [hdone, hlocal]
  case pos => simp [hleave, eq_comm]
  case neg =>
    refine iff_of_false nofun ?_
    rintro (⟨h, -⟩ | ⟨h, -⟩ | ⟨h, -⟩)
    exacts [hjoin h, hdone h, hleave h]

theorem reportOf_eq_some_iff {field : BitVec 48} {r : Report} :
    reportOf field = some r ↔
      field ≠ BitVec.allOnes 48 ∧ byteSum field 6 % 256 = 0xFF ∧
      ∃ e : Fin 4, e.val = (byteAt field 1).toNat ∧
        (byteAt field 0 = 1 ∧ r = .join e (clamp 8 32 (byteAt field 2).toNat) ∨
          byteAt field 0 = 2 ∧ (byteAt field 2).toNat ≤ 31 ∧
            r = .done e (byteAt field 2).toNat ((byteAt field 3).setWidth 2) ∨
          byteAt field 0 = 3 ∧ r = .leave e) := by
  constructor
  case mp =>
    intro h
    have hgood := mt reportOf_of_bad (h ▸ Option.some_ne_none r)
    obtain ⟨hidle, hsum⟩ := not_or.1 hgood
    have hlt := not_not.1 (mt reportOf_of_no_engine (h ▸ Option.some_ne_none r))
    exact ⟨hidle, not_not.1 hsum, ⟨_, hlt⟩, rfl, (reportOf_eq_some_iff_of_engine hidle (not_not.1 hsum) rfl).1 h⟩
  case mpr =>
    rintro ⟨hidle, hsum, e, he, hkind⟩
    exact (reportOf_eq_some_iff_of_engine hidle hsum he).2 hkind

/-! ## The presence bits -/

/-- R134, R138: an engine's row after its presence bit, where the bit loses no engine. -/
def Engine.counted (bit : Bool) (x : Engine) : Engine :=
  if x.present then { x with absenceRun := if bit then 0 else x.absenceRun + 1 } else x

/-- The presence bit does not make the eighth absence of a PRESENT engine. -/
def Engine.KeptBy (bit : Bool) (x : Engine) : Prop := x.present = true → bit = true ∨ x.absenceRun < 7

theorem Engine.counted_of_heard {x : Engine} {bit : Bool} (h : x.present = true → bit = true) :
    x.counted bit = if x.present then { x with absenceRun := 0 } else x := by
  unfold Engine.counted
  split
  next hpresent => rw [h hpresent, if_pos rfl]
  next => rfl

/-- The state with every engine's row given. -/
def State.setEngines (g : Fin 4 → Engine) (s : State) : State :=
  { s with vbc := { s.vbc with engines := Vector.ofFn g } }

theorem State.setEngines_engine_self (s : State) : s.setEngines s.engine = s := by
  have hsame : Vector.ofFn s.engine = s.vbc.engines := by
    ext1 i hi
    exact Vector.getElem_ofFn hi
  rw [State.setEngines, hsame]

theorem State.setEngine_engine_self (s : State) (e : Fin 4) : s.setEngine e (s.engine e) = s := by
  simp [State.setEngine, State.engine]

theorem State.setEngine_setEngines (s : State) (e : Fin 4) (x : Engine) (g : Fin 4 → Engine) :
    (s.setEngine e x).setEngines g = s.setEngines g := rfl

/-- A bit that keeps its engine moves the engine's absence run alone. -/
theorem State.trackEngine_of_keptBy {s : State} {e : Fin 4} {bit : Bool} (h : (s.engine e).KeptBy bit) :
    s.trackEngine bit e = s.setEngine e ((s.engine e).counted bit) := by
  cases hpresent : (s.engine e).present with
  | false => simp [State.trackEngine, Engine.counted, hpresent, s.setEngine_engine_self]
  | true =>
    cases bit with
    | true => simp [State.trackEngine, Engine.counted, hpresent]
    | false =>
      have hrun : (s.engine e).absenceRun < 7 := (h hpresent).resolve_left Bool.false_ne_true
      simp [State.trackEngine, Engine.counted, hpresent, show ¬ 8 ≤ (s.engine e).absenceRun + 1 by omega]

theorem State.foldl_trackEngine_of_keptBy (bits : BitVec 4) (l : List (Fin 4)) (hl : l.Nodup) (s : State)
    (h : ∀ e ∈ l, (s.engine e).KeptBy (bits.getLsbD e.val)) :
    l.foldl (fun s e => s.trackEngine (bits.getLsbD e.val) e) s =
      s.setEngines fun e => if e ∈ l then (s.engine e).counted (bits.getLsbD e.val) else s.engine e := by
  induction l generalizing s with
  | nil => simpa using s.setEngines_engine_self.symm
  | cons e l ih =>
    obtain ⟨hnot, hnodup⟩ := List.nodup_cons.1 hl
    have hother : ∀ f ≠ e, (s.setEngine e ((s.engine e).counted (bits.getLsbD e.val))).engine f = s.engine f :=
      fun f hf => by rw [s.setEngine_engine_eq, if_neg hf]
    have hrest : ∀ f ∈ l, f ≠ e := fun f hf q => hnot (q ▸ hf)
    rw [List.foldl_cons, State.trackEngine_of_keptBy (h e List.mem_cons_self),
      ih hnodup _ fun f hf => by rw [hother f (hrest f hf)]; exact h f (List.mem_cons_of_mem e hf),
      State.setEngine_setEngines]
    congr 1
    funext f
    by_cases hf : f = e
    · subst hf
      rw [if_neg hnot, if_pos List.mem_cons_self, State.setEngine_engine]
    · simp only [hother f hf, List.mem_cons, hf, false_or]

/-- Presence bits that keep every engine move the absence runs alone. -/
theorem State.trackPresence_of_keptBy {s : State} {bits : BitVec 4}
    (h : ∀ e, (s.engine e).KeptBy (bits.getLsbD e.val)) :
    s.trackPresence bits = s.setEngines fun e => (s.engine e).counted (bits.getLsbD e.val) := by
  rw [State.trackPresence, State.foldl_trackEngine_of_keptBy bits _ (List.nodup_finRange 4) s fun e _ => h e]
  simp only [List.mem_finRange, if_true]

/-! ## The answer -/

/-- R129: the first frame of an open window, kept for the echo. -/
def State.keepAnswer (f : BitVec 56) (s : State) : State :=
  { s with vbc := { s.vbc with answer := .answered, echo := reportField f } }

@[simp] theorem State.keepAnswer_engine (s : State) (f : BitVec 56) (e : Fin 4) :
    (s.keepAnswer f).engine e = s.engine e := rfl

theorem presenceBits_getLsbD (f : BitVec 56) (e : Fin 4) : (presenceBits f).getLsbD e.val = f.getLsbD e.val := by
  simp [presenceBits]

/-- R129, R130: an answer without a report is kept for the echo, and moves the absence runs alone where its presence
bits keep every engine. -/
theorem State.takeAnswer_of_no_report {s : State} {f : BitVec 56} (hanswer : s.vbc.answer = .awaiting)
    (hreport : reportOf (reportField f) = none) (hkept : ∀ e, (s.engine e).KeptBy (f.getLsbD e.val)) :
    s.takeAnswer f = (s.keepAnswer f).setEngines fun e => (s.engine e).counted (f.getLsbD e.val) := by
  have hkept' : ∀ e, ((s.keepAnswer f).engine e).KeptBy ((presenceBits f).getLsbD e.val) :=
    fun e => presenceBits_getLsbD f e ▸ hkept e
  calc s.takeAnswer f
    _ = (s.keepAnswer f).trackPresence (presenceBits f) := by
      simp only [State.takeAnswer, hanswer, hreport, State.keepAnswer]
    _ = _ := by simp only [State.trackPresence_of_keptBy hkept', presenceBits_getLsbD, State.keepAnswer_engine]

/-- Where every PRESENT engine's bit is set, the rows are the engines' own with the absence runs at 0. -/
theorem State.setEngines_counted_of_all_heard {s t : State} {bits : Fin 4 → Bool}
    (h : ∀ e, (s.engine e).present = true → bits e = true) :
    (t.setEngines fun e => (s.engine e).counted (bits e)) =
      { t with vbc := { t.vbc with
        engines := s.vbc.engines.map fun x => if x.present then { x with absenceRun := 0 } else x } } := by
  have hrows : (Vector.ofFn fun e => (s.engine e).counted (bits e)) =
      s.vbc.engines.map fun x => if x.present then { x with absenceRun := 0 } else x := by
    ext1 i hi
    rw [Vector.getElem_ofFn, Vector.getElem_map]
    exact Engine.counted_of_heard (h ⟨i, hi⟩)
  rw [State.setEngines, hrows]

/-- Settles O51: a report is read off by its kind, and an answer without one only moves the absence runs. -/
theorem reportFieldIsValidExactlyAsStated : Obligations.ReportFieldIsValidExactlyAsStated := by
  refine ⟨fun field r => ?valid, fun s f hheld hhushed hanswer hheard hreport => ?discarded⟩
  case valid =>
    rw [reportOf_eq_some_iff, clamp, min_comm]
    simp only [byteSum, Nat.zero_add]
  case discarded =>
    calc exec (.upstreamAnswer f) s
      _ = .next (s.takeAnswer f).watchQuiet := s.live_next _ hheld
      _ = .next ((s.keepAnswer f).setEngines fun e => (s.engine e).counted (f.getLsbD e.val)) := by
        rw [State.takeAnswer_of_no_report hanswer hreport fun e hpresent => .inl (hheard e hpresent)]
        exact congrArg _ (State.watchQuiet_of_hushed _ hhushed)
      _ = _ := by rw [State.setEngines_counted_of_all_heard hheard]; rfl

end Sys2Proof.Machine
end

section
/-! START and WAKE (R156, R160), with the wake request of R133 that they make. -/

namespace Sys2Proof.Machine

/-! ## The wake request -/

/-- R133, R134: in PLAYING a wake request takes a QUIET bus with no hold-off to WAKING, and does nothing else. -/
theorem State.wakeTest_of_playing {s : State} (h : s.act.activity = .playing) :
    s.wakeTest = if s.vbc.bus = .quiet ∧ s.vbc.holdOff = none then s.enterWaking else s := by
  simp only [State.wakeTest, h, true_and]

/-- A wake request neither reads nor writes the hush timer. -/
theorem State.wakeTest_setHush (s : State) (n : Nat) :
    ({ s with act := { s.act with hush := n } } : State).wakeTest =
      { s.wakeTest with act := { s.wakeTest.act with hush := n } } := by
  unfold State.wakeTest
  split <;> rfl

/-- R159: of a wake's parts, the hush timer's return to 0 may come first. -/
theorem State.wakeUp_eq (s : State) :
    s.wakeUp = ({ s with act := { s.act with activity := .playing, hush := 0 } } : State).wakeTest.setNotice .woke := by
  rw [State.wakeTest_setHush { s with act := { s.act with activity := .playing } } 0]
  rfl

/-! ## The two requests in each activity state -/

theorem State.doStart_of_setup {s : State} (h : s.act.activity = .setup) : s.doStart = (bare .ok, s.startPlaying) :=
  if_pos h

theorem State.doStart_of_not_setup {s : State} (h : s.act.activity ≠ .setup) : s.doStart = refuse .wrongState s :=
  if_neg h

theorem State.doWake_of_resting {s : State} (h : s.act.activity = .resting) : s.doWake = (bare .ok, s.wakeUp) := by
  rw [State.doWake, h]

theorem State.doWake_of_playing {s : State} (h : s.act.activity = .playing) :
    s.doWake = (bare .ok, { s with act := { s.act with hush := 0 } }) := by
  rw [State.doWake, h]

theorem State.doWake_of_setup {s : State} (h : s.act.activity = .setup) : s.doWake = refuse .wrongState s := by
  rw [State.doWake, h]

theorem exec_start_of_ready {s : State} (h : s.ready) :
    exec .start s = .next (s.answered s.doStart.2 s.doStart.1) := s.request_ready _ h

theorem exec_wake_of_ready {s : State} (h : s.ready) :
    exec .wake s = .next (s.answered s.doWake.2 s.doWake.1) := s.request_ready _ h

/-- Settles O59: the answer of each request in each activity state; where one brings the part to PLAYING, the wake
request is made there, so that the bus alone decides it. -/
theorem startAndWakeBringThePartToPlaying : Obligations.StartAndWakeBringThePartToPlaying := by
  intro s hready
  refine ⟨fun hsetup => ?start, fun hrefused => ?startRefused, fun hresting => ?wake, fun hplaying => ?wakePlaying,
    fun hsetup => ?wakeRefused⟩
  case start =>
    rw [exec_start_of_ready hready, State.doStart_of_setup hsetup, State.startPlaying, State.wakeTest_of_playing rfl]
    rfl
  case startRefused =>
    rw [exec_start_of_ready hready, State.doStart_of_not_setup hrefused]
    rfl
  case wake =>
    rw [exec_wake_of_ready hready, State.doWake_of_resting hresting, State.wakeUp_eq, State.wakeTest_of_playing rfl]
    rfl
  case wakePlaying =>
    rw [exec_wake_of_ready hready, State.doWake_of_playing hplaying]
    rfl
  case wakeRefused =>
    rw [exec_wake_of_ready hready, State.doWake_of_setup hsetup]
    rfl

end Sys2Proof.Machine
end
